-- ==== Sys2Proof/Word.lean ====
section
/-! DEFINITION. The three word types of the block: the byte of the register port, the 16-bit word of a frame group or a
result register, and the 24-bit transaction word. -/

namespace Sys2Proof

/-- One byte: the width of the register port's address and of its data (00_scope.md R5, 20_memory.md R40, R41). -/
abbrev Byte := BitVec 8

/-- A 16-bit word: a status word, a raw count, or a 16-bit result register (00_scope.md R4, 10_state.md R25, R27). -/
abbrev Word16 := BitVec 16

/-- A transaction word (30_encoding.md R61). -/
abbrev TxnWord := BitVec 24

end Sys2Proof
end

