-- ==== Sys2Proof/Config.lean ====
section
/-! DEFINITION. The parameters that 00_scope.md R4 and R5 fix for the block. The block has no parameter that a model must
take as an open argument (R5), so nothing here is opaque and there are no free values. -/

namespace Sys2Proof.Config

/-- CRC polynomial x^8 + x^5 + x^4 + 1, its x^8 term left out (00_scope.md R4). -/
def crcPolynomial : Byte := 0x31#8

/-- CRC initial register value (00_scope.md R4). -/
def crcInitial : Byte := 0xFF#8

/-- The largest raw count, the divisor of every transfer function (00_scope.md R4). -/
def fullScale : Int := 65535

/-- A linear transfer function `offset + span * raw / 65535` in physical units (00_scope.md R4). -/
structure Transfer where
  offset : Int
  span   : Int
  deriving DecidableEq, Repr

/-- Celsius: `-45 + 175 * raw / 65535` (00_scope.md R4). -/
def celsiusTransfer : Transfer := { offset := -45, span := 175 }

/-- Fahrenheit: `-49 + 315 * raw / 65535` (00_scope.md R4). -/
def fahrenheitTransfer : Transfer := { offset := -49, span := 315 }

/-- Relative humidity: `100 * raw / 65535` (00_scope.md R4). -/
def humidityTransfer : Transfer := { offset := 0, span := 100 }

end Sys2Proof.Config
end

