-- ==== Sys2Proof/Syntax.lean ====
section
/-! DEFINITION. The instructions: one constructor for each row of spec/opcode_table.json. -/

namespace Sys2Proof

/-- A host transaction as an instruction (30_encoding.md R64, R68). An operation has no operand fields: its operands are
always fixed registers (R62). -/
inductive Instr where
  /-- CRC8, opcode 0x01 (40_checksum.md R83). -/
  | crc8
  /-- VERIFY, opcode 0x02 (40_checksum.md R84). -/
  | verify
  /-- DECODE, opcode 0x03 (41_status_decode.md R93). -/
  | decode
  /-- CONVC, opcode 0x04 (42_conversion.md R107). -/
  | convc
  /-- CONVF, opcode 0x05 (42_conversion.md R108). -/
  | convf
  /-- CONVRH, opcode 0x06 (42_conversion.md R109). -/
  | convrh
  /-- STATFRM, opcode 0x07 (43_frames.md R120). -/
  | statfrm
  /-- MEASFRM, opcode 0x08 (43_frames.md R121). -/
  | measfrm
  /-- OP_ILLEGAL: a write to OP of an illegal opcode (60_exceptions.md R141). -/
  | opIllegal (code : Byte)
  /-- RD: read one byte at an address (30_encoding.md R68). -/
  | rd (addr : Byte)
  /-- WR: write one byte at an address other than OP's (30_encoding.md R68). -/
  | wr (addr data : Byte)
  deriving DecidableEq, Repr

/-- The mnemonic of spec/opcode_table.json. -/
def Instr.mnemonic : Instr → String
  | .crc8 => "CRC8"
  | .verify => "VERIFY"
  | .decode => "DECODE"
  | .convc => "CONVC"
  | .convf => "CONVF"
  | .convrh => "CONVRH"
  | .statfrm => "STATFRM"
  | .measfrm => "MEASFRM"
  | .opIllegal _ => "OP_ILLEGAL"
  | .rd _ => "RD"
  | .wr _ _ => "WR"

/-- The eight legal operations of 30_encoding.md R63. -/
def Instr.isOperation : Instr → Bool
  | .crc8 | .verify | .decode | .convc | .convf | .convrh | .statfrm | .measfrm => true
  | .opIllegal _ | .rd _ | .wr _ _ => false

/-- An OP write: a legal operation or an illegal opcode (10_state.md R22). -/
def Instr.isOpWrite : Instr → Bool
  | .crc8 | .verify | .decode | .convc | .convf | .convrh | .statfrm | .measfrm | .opIllegal _ => true
  | .rd _ | .wr _ _ => false

end Sys2Proof
end

