-- ==== Sys2Proof/WellFormed.lean ====
section
/-! DEFINITION. Which instructions have an encoding: the two operand checks of 30_encoding.md R64 and R65. -/

namespace Sys2Proof

/-- The address of OP (10_state.md R20). -/
def opAddress : Byte := 0x06#8

/-- The illegal opcodes are 0x00 and 0x09 to 0xFF (30_encoding.md R65). -/
def illegalOpcode (code : Byte) : Bool := code == 0x00#8 || 0x09#8 ≤ code

/-- The operand checks. A write to address 0x06 always decodes as an operation, never as a generic WR (30_encoding.md
R64), and the illegal-opcode case stands only for the codes R63 marks illegal. RD takes any address (R68), and the
operations have no operands to check (R62). -/
def Instr.wellFormed : Instr → Bool
  | .crc8 | .verify | .decode | .convc | .convf | .convrh | .statfrm | .measfrm => true
  | .opIllegal code => illegalOpcode code
  | .rd _ => true
  | .wr addr _ => addr != opAddress

end Sys2Proof
end

