-- ==== Sys2Proof/Decode.lean ====
section
/-! DEFINITION. The decoder of transaction words (30_encoding.md R61, R63, R64, R66) and, after it, the encoder. -/

namespace Sys2Proof

/-- Field Z, bits 23:17: reserved, must be 0 (30_encoding.md R61). -/
def TxnWord.z (t : TxnWord) : BitVec 7 := t.extractLsb' 17 7

/-- Field R, bit 16: 1 for a read, 0 for a write (30_encoding.md R61). -/
def TxnWord.isRead (t : TxnWord) : Bool := t.getLsbD 16

/-- Field A, bits 15:8: the register address (30_encoding.md R61). -/
def TxnWord.addr (t : TxnWord) : Byte := t.extractLsb' 8 8

/-- Field D, bits 7:0: the data byte (30_encoding.md R61). -/
def TxnWord.data (t : TxnWord) : Byte := t.extractLsb' 0 8

/-- Why a word spells no transaction (30_encoding.md R66). -/
inductive NotATransaction where
  /-- t[23:17] is not 0. -/
  | reservedBitsSet
  /-- A read word whose t[7:0] is not 0. -/
  | readWithData
  deriving DecidableEq, Repr

/-- The opcode map (30_encoding.md R63): every code without an operation is the illegal-opcode case. -/
def decodeOpcode (code : Byte) : Instr :=
  match code with
  | 0x01#8 => .crc8
  | 0x02#8 => .verify
  | 0x03#8 => .decode
  | 0x04#8 => .convc
  | 0x05#8 => .convf
  | 0x06#8 => .convrh
  | 0x07#8 => .statfrm
  | 0x08#8 => .measfrm
  | code   => .opIllegal code

/-- The decoder, in the order of 30_encoding.md R64; the first match wins. A word that is no transaction is refused by
name (R66); of its two defects the reserved bits are named first (DESIGN CHOICE, log 4, safe). -/
def decode (t : TxnWord) : Except NotATransaction Instr :=
  if TxnWord.z t ≠ 0 then .error .reservedBitsSet
  else if TxnWord.isRead t then
    if TxnWord.data t ≠ 0 then .error .readWithData else .ok (.rd (TxnWord.addr t))
  else if TxnWord.addr t = opAddress then .ok (decodeOpcode (TxnWord.data t))
  else .ok (.wr (TxnWord.addr t) (TxnWord.data t))

/-- The transaction word that the low `nbits` bits of `w` spell. All bits above `nbits` are 0. -/
def tableWord (nbits w : Nat) : TxnWord := BitVec.ofNat 24 (w % 2 ^ nbits)

/-- The decoder on a word numbered as spec/opcode_table.json numbers it. A transaction word has the one fixed form of 24
bits (30_encoding.md R69) and is no sequence of stored bytes (R61), so its number is the table's number (log 5). -/
def decodeTableWord (nbits w : Nat) : Option Instr :=
  match decode (tableWord nbits w) with
  | .ok i => some i
  | .error _ => none

/-- The word of a write transaction (30_encoding.md R61, R71: `0x00_aa_dd`). -/
def writeWord (addr data : Byte) : TxnWord := 0x00#8 ++ addr ++ data

/-- The word of a read transaction (30_encoding.md R61, R71: `0x01_aa_00`). -/
def readWord (addr : Byte) : TxnWord := 0x01#8 ++ addr ++ 0x00#8

/-- The word of an OP write (30_encoding.md R60, R71: `0x00_06_cc`). -/
def opWord (code : Byte) : TxnWord := writeWord opAddress code

/-- The encoder: the transaction word of each instruction (30_encoding.md R63, R71). -/
def encode : Instr → TxnWord
  | .crc8 => opWord 0x01#8
  | .verify => opWord 0x02#8
  | .decode => opWord 0x03#8
  | .convc => opWord 0x04#8
  | .convf => opWord 0x05#8
  | .convrh => opWord 0x06#8
  | .statfrm => opWord 0x07#8
  | .measfrm => opWord 0x08#8
  | .opIllegal code => opWord code
  | .rd addr => readWord addr
  | .wr addr data => writeWord addr data

end Sys2Proof
end

