-- ==== Sys2Proof/Machine/State.lean ====
section
/-! DEFINITION. The block's registers, the machine's state, its reset value, and the reasons a step can stop. -/

namespace Sys2Proof.Machine

/-- The block's whole architectural state (10_state.md R20). OP has no field: it holds no state (R22). -/
structure Regs where
  /-- DIN0 to DIN5, the input bytes, byte k of a frame in DINk (10_state.md R21). -/
  din0  : Byte
  din1  : Byte
  din2  : Byte
  din3  : Byte
  din4  : Byte
  din5  : Byte
  /-- STAT: OK0 in bit 0, OK1 in bit 1, ILL in bit 7 (10_state.md R23). -/
  stat  : Byte
  /-- CRC0 and CRC1, the computed checksums of the two groups (10_state.md R24). -/
  crc0  : Byte
  crc1  : Byte
  /-- WORD0 and WORD1, the assembled raw words of the two groups (10_state.md R25). -/
  word0 : Word16
  word1 : Word16
  /-- FLAGS, the seven decoded status flags (10_state.md R26). -/
  flags : Byte
  /-- TC, TF and RH, converted values in centi-units, two's complement (10_state.md R27). -/
  tc    : Word16
  tf    : Word16
  rh    : Word16
  deriving DecidableEq, Repr

/-- Every register at its reset value (10_state.md R20, 70_reset_and_hazards.md R160). -/
def Regs.reset : Regs :=
  { din0 := 0x00#8, din1 := 0x00#8, din2 := 0x00#8, din3 := 0x00#8, din4 := 0x00#8, din5 := 0x00#8
    stat := 0x00#8, crc0 := 0x00#8, crc1 := 0x00#8, word0 := 0x0000#16, word1 := 0x0000#16, flags := 0x00#8
    tc := 0x0000#16, tf := 0x0000#16, rh := 0x0000#16 }

/-- What the host can do to the block (20_memory.md R53): a read or a write, written as a transaction word (30_encoding.md
R61), or a reset. -/
inductive HostAction where
  | transaction (word : TxnWord)
  | reset
  deriving DecidableEq, Repr

/-- The machine: the block's registers, and the two ends of its host interface. `pending` and `returned` are the model's
own fields (DESIGN CHOICE, logs 1 and 2); the block itself has no hidden state (10_state.md R30). -/
structure State where
  /-- The block's registers. -/
  regs     : Regs
  /-- What the host has still to do, oldest first (20_memory.md R47, R53). -/
  pending  : List HostAction
  /-- The bytes that RD transactions have returned, oldest first (70_reset_and_hazards.md R167). -/
  returned : List Byte
  deriving DecidableEq, Repr

/-- The machine right after reset (70_reset_and_hazards.md R160): no host action has been made and none is planned. -/
def State.reset : State := { regs := Regs.reset, pending := [], returned := [] }

/-- Why the machine stops. The block itself has no fault: no access is ever refused or faulted (20_memory.md R44). -/
inductive Fault where
  /-- Raised by `step` alone, when the host has nothing left to do: the run has ended (70_reset_and_hazards.md R167), and
  the block has no step of its own (20_memory.md R53). DEDUCED, log 3. Safe: no instruction raises it. -/
  | noTransaction
  deriving DecidableEq, Repr

/-- Why a step has no meaning. -/
inductive Refusal where
  /-- Raised by an arm of `exec` that has no meaning yet. Safe. No arm raises it. -/
  | notModelled (mnemonic : String)
  /-- Raised by `step` on a word that spells no transaction; a decoder refuses it by name (30_encoding.md R66). Safe: no port
  activity corresponds to such a word. -/
  | notATransaction (why : NotATransaction)
  deriving DecidableEq, Repr

end Sys2Proof.Machine
end

