-- ==== Sys2Proof/Machine/Operands.lean ====
section
/-! DEFINITION. Byte order, the assembly of operands from the DIN registers, and the map from port addresses to
registers. -/

namespace Sys2Proof.Machine

/-- `hi : lo`, the word of two bytes, the first as the high byte (00_scope.md R6, 20_memory.md R42). -/
def wordOf (hi lo : Byte) : Word16 := hi ++ lo

/-- v[15:8], the byte a 16-bit register shows at its lower address (20_memory.md R42). -/
def hiByte (w : Word16) : Byte := w.extractLsb' 8 8

/-- v[7:0], the byte a 16-bit register shows at its higher address (20_memory.md R42). -/
def loByte (w : Word16) : Byte := w.extractLsb' 0 8

/-- w0, group 0's data word (30_encoding.md R67). -/
def Regs.group0Word (r : Regs) : Word16 := wordOf r.din0 r.din1

/-- c0, group 0's received checksum byte (30_encoding.md R67). -/
def Regs.group0Checksum (r : Regs) : Byte := r.din2

/-- w1, group 1's data word (30_encoding.md R67). -/
def Regs.group1Word (r : Regs) : Word16 := wordOf r.din3 r.din4

/-- c1, group 1's received checksum byte (30_encoding.md R67). -/
def Regs.group1Checksum (r : Regs) : Byte := r.din5

/-- The locations of the register port (10_state.md R20). A 16-bit register takes two, one for each byte. -/
inductive Location where
  | din0 | din1 | din2 | din3 | din4 | din5
  | op | stat | crc0 | crc1
  | word0Hi | word0Lo | word1Hi | word1Lo
  | flags
  | tcHi | tcLo | tfHi | tfLo | rhHi | rhLo
  | reserved
  deriving DecidableEq, Repr

/-- The address map (10_state.md R20, 20_memory.md R51). -/
def locate (addr : Byte) : Location :=
  match addr with
  | 0x00#8 => .din0
  | 0x01#8 => .din1
  | 0x02#8 => .din2
  | 0x03#8 => .din3
  | 0x04#8 => .din4
  | 0x05#8 => .din5
  | 0x06#8 => .op
  | 0x07#8 => .stat
  | 0x08#8 => .crc0
  | 0x09#8 => .crc1
  | 0x0A#8 => .word0Hi
  | 0x0B#8 => .word0Lo
  | 0x0C#8 => .word1Hi
  | 0x0D#8 => .word1Lo
  | 0x0E#8 => .flags
  | 0x10#8 => .tcHi
  | 0x11#8 => .tcLo
  | 0x12#8 => .tfHi
  | 0x13#8 => .tfLo
  | 0x14#8 => .rhHi
  | 0x15#8 => .rhLo
  | _      => .reserved

end Sys2Proof.Machine
end

