-- ==== Sys2Proof/Machine/Flags.lean ====
section
/-! DEFINITION. The fields of STAT, the named flags of FLAGS, and the bit helpers they use. -/

namespace Sys2Proof.Machine

/-- `v` with bit `i` set to `b`, every other bit kept: the `x[STAT][i] <- b` of the operation rules (00_scope.md R6, R7). -/
def putBit (v : Byte) (i : Nat) (b : Bool) : Byte :=
  (v &&& ~~~(1#8 <<< i)) ||| ((BitVec.ofBool b).setWidth 8 <<< i)

/-- `x[STAT][0] <- b`, on the byte of STAT (10_state.md R23). -/
def putOk0 (stat : Byte) (b : Bool) : Byte := putBit stat 0 b

/-- `x[STAT][1] <- b`, on the byte of STAT (10_state.md R23). -/
def putOk1 (stat : Byte) (b : Bool) : Byte := putBit stat 1 b

/-- `x[STAT][7] <- b`, on the byte of STAT (10_state.md R23). -/
def putIll (stat : Byte) (b : Bool) : Byte := putBit stat 7 b

/-- STAT.OK0, bit 0 (10_state.md R23). -/
def Regs.ok0 (r : Regs) : Bool := r.stat.getLsbD 0

/-- STAT.OK1, bit 1 (10_state.md R23). -/
def Regs.ok1 (r : Regs) : Bool := r.stat.getLsbD 1

/-- STAT.ILL, bit 7 (10_state.md R23). -/
def Regs.ill (r : Regs) : Bool := r.stat.getLsbD 7

/-- The seven status flags, by the source's names (10_state.md R26, 41_status_decode.md R90). -/
inductive StatusFlag where
  | alertPending
  | heaterOn
  | humidityTrackingAlert
  | temperatureTrackingAlert
  | systemResetDetected
  | lastCommandFailed
  | writeChecksumFailed
  deriving DecidableEq, Repr

/-- The status-word bit a flag is taken from (41_status_decode.md R90). -/
def StatusFlag.wordBit : StatusFlag → Nat
  | .alertPending => 15
  | .heaterOn => 13
  | .humidityTrackingAlert => 11
  | .temperatureTrackingAlert => 10
  | .systemResetDetected => 4
  | .lastCommandFailed => 1
  | .writeChecksumFailed => 0

/-- The FLAGS bit a flag is packed into (10_state.md R26). -/
def StatusFlag.flagsBit : StatusFlag → Nat
  | .alertPending => 6
  | .heaterOn => 5
  | .humidityTrackingAlert => 4
  | .temperatureTrackingAlert => 3
  | .systemResetDetected => 2
  | .lastCommandFailed => 1
  | .writeChecksumFailed => 0

/-- A named flag as FLAGS holds it (10_state.md R26). -/
def Regs.statusFlag (r : Regs) (f : StatusFlag) : Bool := r.flags.getLsbD f.flagsBit

end Sys2Proof.Machine
end

