-- ==== Sys2Proof/Machine/Ops.lean ====
section
/-! DEFINITION. The named operations over the registers and the host interface: writes of the DIN registers, the one error
condition (IllegalOperation), the end of a transaction, reset, and taking the host's next action. -/

namespace Sys2Proof.Machine

/-! ### DIN writes (`x[DINk] <- v`, 00_scope.md R8, 10_state.md R21) -/

def Regs.putDin0 (r : Regs) (v : Byte) : Regs := { r with din0 := v }
def Regs.putDin1 (r : Regs) (v : Byte) : Regs := { r with din1 := v }
def Regs.putDin2 (r : Regs) (v : Byte) : Regs := { r with din2 := v }
def Regs.putDin3 (r : Regs) (v : Byte) : Regs := { r with din3 := v }
def Regs.putDin4 (r : Regs) (v : Byte) : Regs := { r with din4 := v }
def Regs.putDin5 (r : Regs) (v : Byte) : Regs := { r with din5 := v }

/-! ### The error condition -/

/-- `raise IllegalOperation(c)` (60_exceptions.md R141): STAT.ILL is set and no other register changes. The code is not
recorded (R140), nothing is saved and there is no handler to go to and no return (R145). -/
def raiseIllegal (r : Regs) : Regs := { r with stat := putIll r.stat true }

/-- The STAT of a legal operation, given the byte its OK bits leave: ILL is cleared (10_state.md R23). -/
def legalStat (stat : Byte) : Byte := putIll stat false

/-! ### The end of a transaction -/

/-- The transaction ends, the registers are `r`, and no byte is returned (20_memory.md R53, Write). -/
def finish (s : State) (r : Regs) : Host.Outcome State Fault Refusal := .next { s with regs := r }

/-- The transaction ends, `b` is returned to the host, and no register changes (20_memory.md R53, Read). -/
def answer (s : State) (b : Byte) : Host.Outcome State Fault Refusal :=
  .next { s with returned := s.returned ++ [b] }

/-! ### The host's side -/

/-- Reset (70_reset_and_hazards.md R160): every register takes its reset value. What the host has still to do, and the bytes
it has already been given, are the host's and stay (DESIGN CHOICE, log 7). -/
def takeReset (s : State) : State := { s with regs := Regs.reset }

/-- The host's next action, in the order the host issues them (20_memory.md R47), and the state without it. -/
def nextAction (s : State) : Option (HostAction × State) :=
  match s.pending with
  | [] => none
  | a :: rest => some (a, { s with pending := rest })

/-- `s` with the host's next action set to `a`. -/
def issue (s : State) (a : HostAction) : State := { s with pending := a :: s.pending }

end Sys2Proof.Machine
end

