-- ==== Sys2Proof/Machine/Checksum.lean ====
section
/-! DEFINITION. The CRC-8 function and the checksum operations CRC8 and VERIFY (spec/40_checksum.md). -/

namespace Sys2Proof.Machine

/-- One shift of the CRC register, MSB first (40_checksum.md R80). -/
def crcShift (r : Byte) : Byte :=
  if r.getLsbD 7 then (r <<< 1) ^^^ Config.crcPolynomial else r <<< 1

/-- `n` shifts of the CRC register. -/
def crcShifts : Nat → Byte → Byte
  | 0, r => r
  | n + 1, r => crcShifts n (crcShift r)

/-- One input byte: XOR it in, then shift 8 times (40_checksum.md R80). -/
def crcByte (r byte : Byte) : Byte := crcShifts 8 (r ^^^ byte)

/-- `crc8(a, b)`: a first, then b (40_checksum.md R80). -/
def crc8 (a b : Byte) : Byte := crcByte (crcByte Config.crcInitial a) b

/-- `verify(a, b, c)` (40_checksum.md R82). -/
def verify (a b c : Byte) : Bool := crc8 a b == c

/-- The effect of CRC8 on the registers (40_checksum.md R83). -/
def opCrc8 (r : Regs) : Regs :=
  { r with
    crc0 := crc8 r.din0 r.din1
    stat := legalStat r.stat }

/-- The effect of VERIFY on the registers (40_checksum.md R84). -/
def opVerify (r : Regs) : Regs :=
  { r with
    crc0 := crc8 r.din0 r.din1
    stat := legalStat (putOk0 r.stat (verify r.din0 r.din1 r.group0Checksum)) }

/-- CRC8 (40_checksum.md R83). -/
def execCrc8 (s : State) : Host.Outcome State Fault Refusal := finish s (opCrc8 s.regs)

/-- VERIFY (40_checksum.md R84). -/
def execVerify (s : State) : Host.Outcome State Fault Refusal := finish s (opVerify s.regs)

end Sys2Proof.Machine
end

