-- ==== Sys2Proof/Machine/Conversion.lean ====
section
/-! DEFINITION. The conversions from raw counts to centi-units and the operations CONVC, CONVF and CONVRH
(spec/42_conversion.md). -/

namespace Sys2Proof.Machine

/-- `round(n / d)`, the integer nearest to n / d for d > 0, as `(2*n + d) // (2*d)` (42_conversion.md R102). Lean's `/` on Int
is the floor for a positive divisor, as 00_scope.md R7's `//` is. -/
def roundNearest (n d : Int) : Int := (2 * n + d) / (2 * d)

/-- 100 times the exact value of a transfer function at raw count `r`, over the divisor 65535: its numerator
(42_conversion.md R102). -/
def centiNumerator (f : Config.Transfer) (r : Word16) : Int :=
  100 * (f.offset * Config.fullScale + f.span * (r.toNat : Int))

/-- A transfer function's value at raw count `r`, in centi-units, rounded to nearest (42_conversion.md R100 to R102). -/
def centiUnits (f : Config.Transfer) (r : Word16) : Int := roundNearest (centiNumerator f r) Config.fullScale

/-- `celsius(r)` (42_conversion.md R103). -/
def celsius (r : Word16) : Int := centiUnits Config.celsiusTransfer r

/-- `fahrenheit(r)`, computed from r and not from celsius(r) (42_conversion.md R104). -/
def fahrenheit (r : Word16) : Int := centiUnits Config.fahrenheitTransfer r

/-- `humidity(r)`, not clamped (42_conversion.md R105). -/
def humidity (r : Word16) : Int := centiUnits Config.humidityTransfer r

/-- `enc_16(v)`, the two's-complement pattern of v (00_scope.md R7). -/
def enc16 (v : Int) : Word16 := BitVec.ofInt 16 v

/-- The physical value a converted register holds, in °C, °F or %: `sext_16(x) / 100` (10_state.md R27, 42_conversion.md
R101). -/
def reading (w : Word16) : Rat := (w.toInt : Rat) / 100

/-- The effect of CONVC on the registers (42_conversion.md R107). -/
def opConvc (r : Regs) : Regs :=
  { r with
    word0 := r.group0Word
    tc := enc16 (celsius r.group0Word)
    stat := legalStat r.stat }

/-- The effect of CONVF on the registers (42_conversion.md R108). -/
def opConvf (r : Regs) : Regs :=
  { r with
    word0 := r.group0Word
    tf := enc16 (fahrenheit r.group0Word)
    stat := legalStat r.stat }

/-- The effect of CONVRH on the registers (42_conversion.md R109): its count is DIN0 : DIN1. -/
def opConvrh (r : Regs) : Regs :=
  { r with
    word0 := r.group0Word
    rh := enc16 (humidity r.group0Word)
    stat := legalStat r.stat }

/-- CONVC (42_conversion.md R107). -/
def execConvc (s : State) : Host.Outcome State Fault Refusal := finish s (opConvc s.regs)

/-- CONVF (42_conversion.md R108). -/
def execConvf (s : State) : Host.Outcome State Fault Refusal := finish s (opConvf s.regs)

/-- CONVRH (42_conversion.md R109). -/
def execConvrh (s : State) : Host.Outcome State Fault Refusal := finish s (opConvrh s.regs)

end Sys2Proof.Machine
end

