-- ==== Sys2Proof/Machine/StatusDecode.lean ====
section
/-! DEFINITION. The status-word decoder and the operation DECODE (spec/41_status_decode.md). -/

namespace Sys2Proof.Machine

/-- Bit `i` of a status word, masked and shifted to bit `j` of a byte (41_status_decode.md R91). -/
def statusBit (w : Word16) (i j : Nat) : Byte := (((w >>> i) &&& 1#16).setWidth 8) <<< j

/-- `decode(w)` (41_status_decode.md R91). -/
def statusDecode (w : Word16) : Byte :=
  statusBit w 15 6 ||| statusBit w 13 5 ||| statusBit w 11 4 ||| statusBit w 10 3 |||
  statusBit w 4 2 ||| statusBit w 1 1 ||| statusBit w 0 0

/-- The effect of DECODE on the registers (41_status_decode.md R93). -/
def opDecode (r : Regs) : Regs :=
  { r with
    word0 := r.group0Word
    flags := statusDecode r.group0Word
    stat := legalStat r.stat }

/-- DECODE (41_status_decode.md R93). -/
def execDecode (s : State) : Host.Outcome State Fault Refusal := finish s (opDecode s.regs)

end Sys2Proof.Machine
end

