-- ==== Sys2Proof/Machine/Frames.lean ====
section
/-! DEFINITION. The frame operations STATFRM and MEASFRM (spec/43_frames.md). Results are written whatever the checksum
outcome (R122). -/

namespace Sys2Proof.Machine

/-- The effect of STATFRM on the registers (43_frames.md R120). -/
def opStatfrm (r : Regs) : Regs :=
  { r with
    word0 := r.group0Word
    crc0 := crc8 r.din0 r.din1
    flags := statusDecode r.group0Word
    stat := legalStat (putOk0 r.stat (verify r.din0 r.din1 r.group0Checksum)) }

/-- The effect of MEASFRM on the registers (43_frames.md R121): temperature from group 0, humidity from group 1, each group
checked on its own. FLAGS is not written. -/
def opMeasfrm (r : Regs) : Regs :=
  { r with
    word0 := r.group0Word
    word1 := r.group1Word
    crc0 := crc8 r.din0 r.din1
    crc1 := crc8 r.din3 r.din4
    tc := enc16 (celsius r.group0Word)
    tf := enc16 (fahrenheit r.group0Word)
    rh := enc16 (humidity r.group1Word)
    stat := legalStat (putOk1 (putOk0 r.stat (verify r.din0 r.din1 r.group0Checksum))
      (verify r.din3 r.din4 r.group1Checksum)) }

/-- STATFRM (43_frames.md R120). -/
def execStatfrm (s : State) : Host.Outcome State Fault Refusal := finish s (opStatfrm s.regs)

/-- MEASFRM (43_frames.md R121). -/
def execMeasfrm (s : State) : Host.Outcome State Fault Refusal := finish s (opMeasfrm s.regs)

end Sys2Proof.Machine
end

