-- ==== Sys2Proof/Machine/Port.lean ====
section
/-! DEFINITION. The register port: host reads and writes of one byte, the OP trigger, and the transactions RD, WR and the
illegal OP write (spec/20_memory.md R44, spec/30_encoding.md R68, spec/60_exceptions.md R141). -/

namespace Sys2Proof.Machine

/-- `MemRead(a, 1)` (20_memory.md R42, R44). -/
def portRead (r : Regs) (addr : Byte) : Byte :=
  match locate addr with
  | .din0 => r.din0
  | .din1 => r.din1
  | .din2 => r.din2
  | .din3 => r.din3
  | .din4 => r.din4
  | .din5 => r.din5
  | .op => 0x00#8
  | .stat => r.stat
  | .crc0 => r.crc0
  | .crc1 => r.crc1
  | .word0Hi => hiByte r.word0
  | .word0Lo => loByte r.word0
  | .word1Hi => hiByte r.word1
  | .word1Lo => loByte r.word1
  | .flags => r.flags
  | .tcHi => hiByte r.tc
  | .tcLo => loByte r.tc
  | .tfHi => hiByte r.tf
  | .tfLo => loByte r.tf
  | .rhHi => hiByte r.rh
  | .rhLo => loByte r.rh
  | .reserved => 0x00#8

/-- A write of byte `code` to OP runs the operation whose opcode is `code`, or raises IllegalOperation (10_state.md R22,
30_encoding.md R63). -/
def opWrite (r : Regs) (code : Byte) : Regs :=
  match code with
  | 0x01#8 => opCrc8 r
  | 0x02#8 => opVerify r
  | 0x03#8 => opDecode r
  | 0x04#8 => opConvc r
  | 0x05#8 => opConvf r
  | 0x06#8 => opConvrh r
  | 0x07#8 => opStatfrm r
  | 0x08#8 => opMeasfrm r
  | _      => raiseIllegal r

/-- `MemWrite(a, 1, v)` (20_memory.md R44): a DIN register is set, OP runs an operation, and a write to a read-only or
reserved address is ignored. -/
def portWrite (r : Regs) (addr v : Byte) : Regs :=
  match locate addr with
  | .din0 => r.putDin0 v
  | .din1 => r.putDin1 v
  | .din2 => r.putDin2 v
  | .din3 => r.putDin3 v
  | .din4 => r.putDin4 v
  | .din5 => r.putDin5 v
  | .op => opWrite r v
  | .stat | .crc0 | .crc1 | .word0Hi | .word0Lo | .word1Hi | .word1Lo | .flags
  | .tcHi | .tcLo | .tfHi | .tfLo | .rhHi | .rhLo | .reserved => r

/-- RD a (30_encoding.md R68). -/
def execRd (addr : Byte) (s : State) : Host.Outcome State Fault Refusal := answer s (portRead s.regs addr)

/-- WR a, d (30_encoding.md R68). -/
def execWr (addr data : Byte) (s : State) : Host.Outcome State Fault Refusal := finish s (portWrite s.regs addr data)

/-- A write to OP of an illegal opcode (60_exceptions.md R141): the code itself leaves no trace (R140). -/
def execOpIllegal (_code : Byte) (s : State) : Host.Outcome State Fault Refusal := finish s (raiseIllegal s.regs)

end Sys2Proof.Machine
end

