-- ==== Sys2Proof/Machine/Dispatch.lean ====
section
/-! DEFINITION. One arm for each instruction. -/

namespace Sys2Proof.Machine

def exec (i : Instr) (s : State) : Host.Outcome State Fault Refusal :=
  match i with
  | .crc8 => Sys2Proof.Machine.execCrc8 s
  | .verify => Sys2Proof.Machine.execVerify s
  | .decode => Sys2Proof.Machine.execDecode s
  | .convc => Sys2Proof.Machine.execConvc s
  | .convf => Sys2Proof.Machine.execConvf s
  | .convrh => Sys2Proof.Machine.execConvrh s
  | .statfrm => Sys2Proof.Machine.execStatfrm s
  | .measfrm => Sys2Proof.Machine.execMeasfrm s
  | .opIllegal code => Sys2Proof.Machine.execOpIllegal code s
  | .rd addr => Sys2Proof.Machine.execRd addr s
  | .wr addr data => Sys2Proof.Machine.execWr addr data s

end Sys2Proof.Machine
end

