-- ==== Sys2Proof/Machine/Step.lean ====
section
/-! DEFINITION. One step: the block answers the host's next interaction (spec/20_memory.md R53). -/

namespace Sys2Proof.Machine

/-- One host interaction is one step, fully determined (20_memory.md R53). With no interaction left the run has ended
(70_reset_and_hazards.md R167, log 3); a word that spells no transaction is refused by name (30_encoding.md R66). -/
def step (s : State) : Host.Outcome State Fault Refusal :=
  match nextAction s with
  | none => .fault .noTransaction
  | some (.reset, s') => .next (takeReset s')
  | some (.transaction w, s') =>
    match decode w with
    | .ok i => exec i s'
    | .error why => .refused (.notATransaction why)

/-- `s` with the table's word as the host's next transaction. The block fetches nothing (10_state.md R28): its program is the
sequence of host transactions, loaded from outside (log 5). -/
def State.withFetchWord (s : State) (nbits w : Nat) : State := issue s (.transaction (tableWord nbits w))

end Sys2Proof.Machine
end

