-- ==== Sys2Proof/Machine/Listing.lean ====
section
/-! DEFINITION. The register names and the pseudo-instructions of the assembler syntax, with their addresses and expansions (spec/30_encoding.md R71). They are
notation: the block sees the transactions of the expansion, one step each. -/

namespace Sys2Proof.Machine

/-- The address a register name stands for in a listing (10_state.md R20, 30_encoding.md R71); a reserved location has no
name. -/
def registerAddress : Location → Option Byte
  | .din0 => some 0x00#8
  | .din1 => some 0x01#8
  | .din2 => some 0x02#8
  | .din3 => some 0x03#8
  | .din4 => some 0x04#8
  | .din5 => some 0x05#8
  | .op => some 0x06#8
  | .stat => some 0x07#8
  | .crc0 => some 0x08#8
  | .crc1 => some 0x09#8
  | .word0Hi => some 0x0A#8
  | .word0Lo => some 0x0B#8
  | .word1Hi => some 0x0C#8
  | .word1Lo => some 0x0D#8
  | .flags => some 0x0E#8
  | .tcHi => some 0x10#8
  | .tcLo => some 0x11#8
  | .tfHi => some 0x12#8
  | .tfLo => some 0x13#8
  | .rhHi => some 0x14#8
  | .rhLo => some 0x15#8
  | .reserved => none

/-- The 16-bit registers (10_state.md R20). -/
inductive WideReg where
  | word0 | word1 | tc | tf | rh
  deriving DecidableEq, Repr

/-- The address of NAME_HI (10_state.md R20); NAME_LO is at the next address (20_memory.md R42). -/
def WideReg.hiAddress : WideReg → Byte
  | .word0 => 0x0A#8
  | .word1 => 0x0C#8
  | .tc => 0x10#8
  | .tf => 0x12#8
  | .rh => 0x14#8

/-- The value of a 16-bit register. -/
def Regs.wide (r : Regs) : WideReg → Word16
  | .word0 => r.word0
  | .word1 => r.word1
  | .tc => r.tc
  | .tf => r.tf
  | .rh => r.rh

/-- The pseudo-instructions (30_encoding.md R71). -/
inductive Pseudo where
  | ldw0 (v : Word16)
  | ldw1 (v : Word16)
  | ldfrm3 (b0 b1 b2 : Byte)
  | ldfrm6 (b0 b1 b2 b3 b4 b5 : Byte)
  | rd16 (name : WideReg)
  deriving DecidableEq, Repr

/-- The expansion of a pseudo-instruction (30_encoding.md R71). -/
def Pseudo.expand : Pseudo → List Instr
  | .ldw0 v => [.wr 0x00#8 (hiByte v), .wr 0x01#8 (loByte v)]
  | .ldw1 v => [.wr 0x03#8 (hiByte v), .wr 0x04#8 (loByte v)]
  | .ldfrm3 b0 b1 b2 => [.wr 0x00#8 b0, .wr 0x01#8 b1, .wr 0x02#8 b2]
  | .ldfrm6 b0 b1 b2 b3 b4 b5 =>
    [.wr 0x00#8 b0, .wr 0x01#8 b1, .wr 0x02#8 b2, .wr 0x03#8 b3, .wr 0x04#8 b4, .wr 0x05#8 b5]
  | .rd16 name => [.rd name.hiAddress, .rd (name.hiAddress + 1#8)]

/-- The host's actions for a list of instructions: their transaction words, in order (30_encoding.md R61, R71). -/
def hostActions (l : List Instr) : List HostAction := l.map fun i => .transaction (encode i)

end Sys2Proof.Machine
end

