-- ==== Sys2Proof/Safety.lean ====
section
/-! DEFINITION. The invariants of the register file, and what a program is. -/

namespace Sys2Proof.Machine

/-- The reserved bits of STAT and FLAGS are 0 (10_state.md R23, R26), and each converted value lies in the range the spec
gives for it (42_conversion.md R110). -/
structure Regs.Inv (r : Regs) : Prop where
  statReserved  : r.stat &&& 0x7C#8 = 0x00#8
  flagsReserved : r.flags.getLsbD 7 = false
  tcRange       : -4500 ≤ r.tc.toInt ∧ r.tc.toInt ≤ 13000
  tfRange       : -4900 ≤ r.tf.toInt ∧ r.tf.toInt ≤ 26600
  rhRange       : 0 ≤ r.rh.toInt ∧ r.rh.toInt ≤ 10000

/-- The invariant of a machine state: that of its registers. -/
def State.Inv (s : State) : Prop := s.regs.Inv

/-- Group 1's results belong together, because MEASFRM alone writes them (10_state.md R20, R23): either none has been written
since reset, or CRC1 is the checksum of the two bytes of WORD1. -/
def Regs.GroupOneCoherent (r : Regs) : Prop :=
  (r.word1 = 0x0000#16 ∧ r.crc1 = 0x00#8 ∧ r.ok1 = false) ∨ r.crc1 = crc8 (hiByte r.word1) (loByte r.word1)

/-- A word that spells a transaction (30_encoding.md R61, R66). -/
def spellsTransaction (t : TxnWord) : Bool := TxnWord.z t == 0 && (!TxnWord.isRead t || TxnWord.data t == 0)

/-- An action the host can really take (20_memory.md R53): a reset, or a word that spells a transaction. -/
def HostAction.real : HostAction → Bool
  | .reset => true
  | .transaction w => spellsTransaction w

/-- A safe state: the run from it never meets a word that is refused (70_reset_and_hazards.md R167). -/
def State.safe (s : State) : Bool := s.pending.all HostAction.real

end Sys2Proof.Machine
end

