-- ==== Sys2Proof/Certificates/Slice0/Obligations.lean ====
section
/-! DEFINITION. The statements for the provers, each formalising the rules of spec/ its docstring names. Before them, the
spec's own tables and formulas in a form independent of the model's definitions. -/

namespace Sys2Proof.Claims

open Sys2Proof Sys2Proof.Machine

/-- One row of spec/opcode_table.json: a word matches when `word & mask = pattern`. -/
structure OpcodeRow where
  mnemonic : String
  pattern  : TxnWord
  mask     : TxnWord

/-- spec/opcode_table.json, in the order of its priorities (30_encoding.md R64). -/
def opcodeTable : List OpcodeRow :=
  [ ⟨"CRC8", 0x000601#24, 0xFFFFFF#24⟩, ⟨"VERIFY", 0x000602#24, 0xFFFFFF#24⟩, ⟨"DECODE", 0x000603#24, 0xFFFFFF#24⟩,
    ⟨"CONVC", 0x000604#24, 0xFFFFFF#24⟩, ⟨"CONVF", 0x000605#24, 0xFFFFFF#24⟩, ⟨"CONVRH", 0x000606#24, 0xFFFFFF#24⟩,
    ⟨"STATFRM", 0x000607#24, 0xFFFFFF#24⟩, ⟨"MEASFRM", 0x000608#24, 0xFFFFFF#24⟩,
    ⟨"OP_ILLEGAL", 0x000600#24, 0xFFFF00#24⟩, ⟨"RD", 0x010000#24, 0xFF00FF#24⟩, ⟨"WR", 0x000000#24, 0xFF0000#24⟩ ]

/-- The bytes of the port from address 0x00 on, as the table of 10_state.md R20 lays them out, high byte first (20_memory.md
R42). -/
def portImage (r : Regs) : List Byte :=
  [ r.din0, r.din1, r.din2, r.din3, r.din4, r.din5, 0x00#8, r.stat, r.crc0, r.crc1,
    (r.word0 >>> 8).setWidth 8, r.word0.setWidth 8, (r.word1 >>> 8).setWidth 8, r.word1.setWidth 8, r.flags, 0x00#8,
    (r.tc >>> 8).setWidth 8, r.tc.setWidth 8, (r.tf >>> 8).setWidth 8, r.tf.setWidth 8,
    (r.rh >>> 8).setWidth 8, r.rh.setWidth 8 ]

/-- The "Reads" column of 30_encoding.md R63, as port addresses. -/
def readsColumn : Instr → List Byte
  | .crc8 | .decode | .convc | .convf | .convrh => [0x00#8, 0x01#8]
  | .verify | .statfrm => [0x00#8, 0x01#8, 0x02#8]
  | .measfrm => [0x00#8, 0x01#8, 0x02#8, 0x03#8, 0x04#8, 0x05#8]
  | .opIllegal _ | .rd _ | .wr _ _ => []

/-- The "Writes" column of 30_encoding.md R63, STAT left out, as port addresses. -/
def writesColumn : Instr → List Byte
  | .crc8 | .verify => [0x08#8]
  | .decode => [0x0A#8, 0x0B#8, 0x0E#8]
  | .convc => [0x0A#8, 0x0B#8, 0x10#8, 0x11#8]
  | .convf => [0x0A#8, 0x0B#8, 0x12#8, 0x13#8]
  | .convrh => [0x0A#8, 0x0B#8, 0x14#8, 0x15#8]
  | .statfrm => [0x0A#8, 0x0B#8, 0x08#8, 0x0E#8]
  | .measfrm => [0x0A#8, 0x0B#8, 0x0C#8, 0x0D#8, 0x08#8, 0x09#8, 0x10#8, 0x11#8, 0x12#8, 0x13#8, 0x14#8, 0x15#8]
  | .opIllegal _ | .rd _ | .wr _ _ => []

/-- The operations that verify group 0 (10_state.md R23, OK0). -/
def writesOk0 : Instr → Bool
  | .verify | .statfrm | .measfrm => true
  | .crc8 | .decode | .convc | .convf | .convrh | .opIllegal _ | .rd _ | .wr _ _ => false

/-- The operation that verifies group 1 (10_state.md R23, OK1). -/
def writesOk1 : Instr → Bool
  | .measfrm => true
  | .crc8 | .verify | .decode | .convc | .convf | .convrh | .statfrm | .opIllegal _ | .rd _ | .wr _ _ => false

/-- `n` shifts of a CRC register that is let grow past 8 bits, in the source's words (40_checksum.md R80). -/
def wideShifts : Nat → Nat → Nat
  | 0, r => r
  | n + 1, r => wideShifts n (if r.testBit 7 then (r <<< 1) ^^^ 0x31 else r <<< 1)

/-- The source's CRC-8 over two bytes, truncated once at the end: "Return the low 8 bits" (40_checksum.md R80). -/
def wideCrc8 (a b : Nat) : Nat := wideShifts 8 (wideShifts 8 (0xFF ^^^ a) ^^^ b) % 256

/-- The table L of 40_checksum.md R81, index 0 first. -/
def affineTable : List Byte :=
  [ 0x31#8, 0x62#8, 0xC4#8, 0xB9#8, 0x43#8, 0x86#8, 0x3D#8, 0x7A#8,
    0xF4#8, 0xD9#8, 0x83#8, 0x37#8, 0x6E#8, 0xDC#8, 0x89#8, 0x23#8 ]

/-- The XOR of L[i] over every i with w[i] = 1 (40_checksum.md R81). -/
def affineSum (w : Word16) : Byte :=
  (List.range 16).foldl (fun acc i => if w.getLsbD i then acc ^^^ affineTable.getD i 0x00#8 else acc) 0x00#8

/-- The product in GF(2)[x] of a polynomial of degree below 16 and the polynomial `p`, coefficients as bits (40_checksum.md
R81). -/
def polynomialProduct (q : BitVec 16) (p : BitVec 24) : BitVec 24 :=
  (List.range 16).foldl (fun acc i => if q.getLsbD i then acc ^^^ (p <<< i) else acc) 0

/-- The integer form of celsius (42_conversion.md R103). -/
def celsiusForm (r : Int) : Int := (35000 * r + 65535) / 131070 - 4500

/-- The integer form of fahrenheit (42_conversion.md R104). -/
def fahrenheitForm (r : Int) : Int := (63000 * r + 65535) / 131070 - 4900

/-- The integer form of humidity (42_conversion.md R105). -/
def humidityForm (r : Int) : Int := (20000 * r + 65535) / 131070

/-- `v` is the integer strictly nearest to n / 65535 (42_conversion.md R102). -/
def Nearest (v n : Int) : Prop := -65535 < 2 * (65535 * v - n) ∧ 2 * (65535 * v - n) < 65535

/-- The raw count of two bytes, the first the high byte, as a number (30_encoding.md R67). -/
def rawCount (hi lo : Byte) : Int := 256 * (hi.toNat : Int) + (lo.toNat : Int)

/-- Two register files that agree on DIN0, DIN1, DIN3 and DIN4, and may differ in everything else. -/
def SameData (r r' : Regs) : Prop := r.din0 = r'.din0 ∧ r.din1 = r'.din1 ∧ r.din3 = r'.din3 ∧ r.din4 = r'.din4

end Sys2Proof.Claims

open Sys2Proof Sys2Proof.Machine Sys2Proof.Claims

/-! ## Encoding -/

/-- A few words written out from 30_encoding.md R61, R63 and R71, one for each family, decode to what they stand for, and the
two words of 95_test_vectors.md §2.5 are refused. -/
def Obligations.WrittenOutWordsDecode : Prop :=
  decode 0b0000000_0_00000110_00000001#24 = .ok .crc8 ∧ decode 0b0000000_0_00000110_00000011#24 = .ok .decode ∧
  decode 0b0000000_0_00000110_00000110#24 = .ok .convrh ∧ decode 0b0000000_0_00000110_00001000#24 = .ok .measfrm ∧
  decode 0b0000000_0_00000110_11111111#24 = .ok (.opIllegal 0xFF#8) ∧
  decode 0b0000000_1_00010000_00000000#24 = .ok (.rd 0x10#8) ∧
  decode 0b0000000_0_00010110_10101010#24 = .ok (.wr 0x16#8 0xAA#8) ∧
  decode 0x020000#24 = .error .reservedBitsSet ∧ decode 0x010001#24 = .error .readWithData

/-- 30_encoding.md R64, R71: decoding the word of a well-formed instruction gives the instruction back, with every operand at
every value its encoding admits. -/
def Obligations.DecodeOfEncodeIsIdentity : Prop :=
  ∀ i : Instr, i.wellFormed = true → decode (encode i) = .ok i

/-- 30_encoding.md R64: what a word decodes to is well formed, and its word is the word decoded, so no two words decode to
one instruction. -/
def Obligations.EncodeOfDecodeIsIdentity : Prop :=
  ∀ (w : TxnWord) (i : Instr), decode w = .ok i → i.wellFormed = true ∧ encode i = w

/-- 30_encoding.md R66: the decoder refuses, by name, exactly the words with t[23:17] != 0 and the read words with
t[7:0] != 0, and no step of the block corresponds to such a word. -/
def Obligations.DecoderRefusesExactlyNonTransactions : Prop :=
  (∀ w : TxnWord, (∃ why, decode w = .error why) ↔
    (w.extractLsb 23 17 ≠ 0 ∨ (w.getLsbD 16 = true ∧ w.extractLsb 7 0 ≠ 0))) ∧
  (∀ (w : TxnWord) (s : State) (rest : List HostAction), s.pending = .transaction w :: rest →
    (w.extractLsb 23 17 ≠ 0 ∨ (w.getLsbD 16 = true ∧ w.extractLsb 7 0 ≠ 0)) →
    ∃ why, step s = .refused (.notATransaction why))

/-- spec/opcode_table.json and 30_encoding.md R64: on every 24-bit word, the decoder's instruction is that of the first row of
the table that matches, and it refuses where no row matches. -/
def Obligations.DecoderFollowsOpcodeTable : Prop :=
  ∀ w : TxnWord, (decode w).toOption.map Instr.mnemonic =
    (opcodeTable.find? fun row => w &&& row.mask == row.pattern).map OpcodeRow.mnemonic

/-- 30_encoding.md R65: every write to OP of a code 0x00 or 0x09 to 0xFF is the illegal case with that code, and no other
code is. -/
def Obligations.OpcodeIsIllegalExactlyOutsideOneToEight : Prop :=
  ∀ c : Byte, decode (0x000600#24 ||| c.setWidth 24) = .ok (.opIllegal c) ↔ (c.toNat = 0 ∨ 9 ≤ c.toNat)

/-! ## Steps -/

/-- When the host's next action is a transaction whose word decodes, a step is `exec` of that instruction at the state
without that action. -/
def Obligations.StepRunsTheDecodedTransaction : Prop :=
  ∀ (s : State) (w : TxnWord) (rest : List HostAction) (i : Instr),
    s.pending = .transaction w :: rest → decode w = .ok i → step s = exec i { s with pending := rest }

/-- A step refuses a word that spells no transaction by the decoder's name for it (30_encoding.md R66), and has no next state
when the host has nothing left to do (20_memory.md R53; the model's choice, log 3). -/
def Obligations.StepStopsOnlyWithoutTransaction : Prop :=
  ∀ s : State,
    (∀ w rest why, s.pending = .transaction w :: rest → decode w = .error why →
      step s = .refused (.notATransaction why)) ∧
    (s.pending = [] → step s = .fault .noTransaction) ∧
    (s.safe = true → s.pending ≠ [] → ∃ t, step s = .next t ∧ t.safe = true)

/-- 70_reset_and_hazards.md R160: reset puts every register at 0, OP still reads 0x00, OK0, OK1 and ILL are 0, and no
transaction resets the block: none takes a state with two nonzero DIN registers to the reset values. -/
def Obligations.ResetClearsEveryRegister : Prop :=
  (∀ (s : State) (rest : List HostAction), s.pending = .reset :: rest → ∃ t, step s = .next t ∧ t.regs =
    { din0 := 0x00#8, din1 := 0x00#8, din2 := 0x00#8, din3 := 0x00#8, din4 := 0x00#8, din5 := 0x00#8, stat := 0x00#8,
      crc0 := 0x00#8, crc1 := 0x00#8, word0 := 0x0000#16, word1 := 0x0000#16, flags := 0x00#8, tc := 0x0000#16,
      tf := 0x0000#16, rh := 0x0000#16 } ∧
    t.regs.ok0 = false ∧ t.regs.ok1 = false ∧ t.regs.ill = false ∧ portRead t.regs 0x06#8 = 0x00#8) ∧
  (∀ (i : Instr) (s t : State), exec i s = .next t → s.regs.din0 ≠ 0x00#8 → s.regs.din1 ≠ 0x00#8 →
    t.regs ≠ State.reset.regs)

/-- 10_state.md R20, 70_reset_and_hazards.md R160: right after reset every address of the port reads 0x00. -/
def Obligations.ResetPortReadsZeroEverywhere : Prop :=
  ∀ a : Byte, portRead State.reset.regs a = 0x00#8

/-- 30_encoding.md R61, R64: the instruction a word decodes to acts as the word's fields say: a read word returns the byte at
t[15:8] and changes no register, and a write word is the port write of t[7:0] at t[15:8], whether it decodes as an operation,
as an illegal opcode or as WR. -/
def Obligations.TransactionIsThePortAccessItSpells : Prop :=
  ∀ (w : TxnWord) (i : Instr) (s : State), decode w = .ok i →
    exec i s = if w.getLsbD 16 then
      .next { s with returned := s.returned ++ [portRead s.regs (w.extractLsb' 8 8)] }
    else .next { s with regs := portWrite s.regs (w.extractLsb' 8 8) (w.extractLsb' 0 8) }

/-! ## The register port -/

/-- 20_memory.md R44, all eight rows: a read of any address returns the byte the register map lays out there and 0x00 at OP
and the reserved addresses; a write of DINk sets that register; a write of OP runs the operation R63 gives the code, or raises
IllegalOperation; a write of a read-only or reserved address changes nothing. No access is refused or faulted. -/
def Obligations.PortRespondsAsTheAccessTable : Prop :=
  ∀ s : State,
    (∀ a : Byte, exec (.rd a) s =
      .next { s with returned := s.returned ++ [(portImage s.regs).getD a.toNat 0x00#8] }) ∧
    (∀ d : Byte,
      exec (.wr 0x00#8 d) s = .next { s with regs := { s.regs with din0 := d } } ∧
      exec (.wr 0x01#8 d) s = .next { s with regs := { s.regs with din1 := d } } ∧
      exec (.wr 0x02#8 d) s = .next { s with regs := { s.regs with din2 := d } } ∧
      exec (.wr 0x03#8 d) s = .next { s with regs := { s.regs with din3 := d } } ∧
      exec (.wr 0x04#8 d) s = .next { s with regs := { s.regs with din4 := d } } ∧
      exec (.wr 0x05#8 d) s = .next { s with regs := { s.regs with din5 := d } }) ∧
    (∀ c : Byte, exec (decodeOpcode c) s = .next { s with regs := portWrite s.regs 0x06#8 c }) ∧
    (∀ a d : Byte, 7 ≤ a.toNat → exec (.wr a d) s = .next s) ∧
    (∀ i : Instr, i.wellFormed = true → ∃ t, exec i s = .next t)

/-- 10_state.md R21, 20_memory.md R44, R47: after WR of a byte to a DIN address, that address reads the byte and every other
address reads as before; after WR to any other address but OP, every address reads as before. -/
def Obligations.PortReadAfterWrite : Prop :=
  ∀ (a d b : Byte) (s : State), (Instr.wr a d).wellFormed = true →
    ∃ t, exec (.wr a d) s = .next t ∧
      portRead t.regs b = if b = a ∧ a.toNat ≤ 5 then d else portRead s.regs b

/-- 10_state.md R21: no operation and no illegal OP write changes a DIN register. -/
def Obligations.NoOpWriteChangesDin : Prop :=
  ∀ (i : Instr) (s t : State), i.isOpWrite = true → exec i s = .next t →
    t.regs.din0 = s.regs.din0 ∧ t.regs.din1 = s.regs.din1 ∧ t.regs.din2 = s.regs.din2 ∧
    t.regs.din3 = s.regs.din3 ∧ t.regs.din4 = s.regs.din4 ∧ t.regs.din5 = s.regs.din5

/-- 70_reset_and_hazards.md R164: writes to different DIN registers commute. -/
def Obligations.DinWritesCommute : Prop :=
  ∀ (a b x y : Byte) (s s₁ s₂ t₁ t₂ : State), a ≠ b → a.toNat ≤ 5 → b.toNat ≤ 5 →
    exec (.wr a x) s = .next s₁ → exec (.wr b y) s₁ = .next t₁ →
    exec (.wr b y) s = .next s₂ → exec (.wr a x) s₂ = .next t₂ → t₁ = t₂

/-- 20_memory.md R45: reads change no register; a DIN write changes only what its own address reads; an OP write changes only
the registers its operation writes, and of STAT only ILL and the OK bits it verifies; every other write changes nothing; and a legal operation run twice leaves the
registers it left when run once. -/
def Obligations.SideEffectsAreThoseListed : Prop :=
  (∀ (a : Byte) (s t : State), exec (.rd a) s = .next t → t.regs = s.regs ∧ t.pending = s.pending) ∧
  (∀ (a d b : Byte) (s t : State), exec (.wr a d) s = .next t → a.toNat ≤ 5 → b ≠ a →
    portRead t.regs b = portRead s.regs b) ∧
  (∀ (i : Instr) (s t : State) (b : Byte), i.wellFormed = true → i.isOpWrite = true → exec i s = .next t →
    b ≠ 0x07#8 → b ∉ writesColumn i →
    portRead t.regs b = portRead s.regs b) ∧
  (∀ (i : Instr) (s t : State), i.wellFormed = true → i.isOpWrite = true → exec i s = .next t →
    (writesOk0 i = false → t.regs.ok0 = s.regs.ok0) ∧ (writesOk1 i = false → t.regs.ok1 = s.regs.ok1) ∧
    t.regs.stat &&& 0x7C#8 = s.regs.stat &&& 0x7C#8) ∧
  (∀ (a d : Byte) (s t : State), exec (.wr a d) s = .next t → 7 ≤ a.toNat → t = s) ∧
  (∀ (i : Instr) (s t u : State), i.isOperation = true → exec i s = .next t → exec i t = .next u → u.regs = t.regs)

/-- 20_memory.md R46: a transaction that is no OP write changes no 16-bit register. -/
def Obligations.WideRegistersChangeOnlyAtOpWrites : Prop :=
  ∀ (i : Instr) (s t : State), i.wellFormed = true → i.isOpWrite = false → exec i s = .next t →
    t.regs.word0 = s.regs.word0 ∧ t.regs.word1 = s.regs.word1 ∧ t.regs.tc = s.regs.tc ∧
    t.regs.tf = s.regs.tf ∧ t.regs.rh = s.regs.rh

/-- 30_encoding.md R71: the pseudo-instructions, run as their expansions from any state, complete and leave what their name
says. LDW0 and LDW1 load a word as two bytes, high byte first; LDFRM loads a frame; RD16 returns the high and then the low
byte of the named register. -/
def Obligations.PseudoInstructionsRunAsExpanded : Prop :=
  ∀ (s : State) (rest : List HostAction),
    (∀ v, s.pending = hostActions (Pseudo.ldw0 v).expand ++ rest → ∃ t, core.run 2 s = .next t ∧
      t.regs = { s.regs with din0 := hiByte v, din1 := loByte v } ∧ t.regs.group0Word = v ∧
      t.pending = rest ∧ t.returned = s.returned) ∧
    (∀ v, s.pending = hostActions (Pseudo.ldw1 v).expand ++ rest → ∃ t, core.run 2 s = .next t ∧
      t.regs = { s.regs with din3 := hiByte v, din4 := loByte v } ∧ t.regs.group1Word = v ∧
      t.pending = rest ∧ t.returned = s.returned) ∧
    (∀ b0 b1 b2, s.pending = hostActions (Pseudo.ldfrm3 b0 b1 b2).expand ++ rest → ∃ t, core.run 3 s = .next t ∧
      t = { regs := { s.regs with din0 := b0, din1 := b1, din2 := b2 }, pending := rest, returned := s.returned }) ∧
    (∀ b0 b1 b2 b3 b4 b5, s.pending = hostActions (Pseudo.ldfrm6 b0 b1 b2 b3 b4 b5).expand ++ rest →
      ∃ t, core.run 6 s = .next t ∧
      t = { regs := { s.regs with din0 := b0, din1 := b1, din2 := b2, din3 := b3, din4 := b4, din5 := b5 },
            pending := rest, returned := s.returned }) ∧
    (∀ name, s.pending = hostActions (Pseudo.rd16 name).expand ++ rest → ∃ t hi lo, core.run 2 s = .next t ∧
      t = { s with pending := rest, returned := s.returned ++ [hi, lo] } ∧ wordOf hi lo = s.regs.wide name)

/-! ## What each operation does: its whole next state, so its frame and its completion too -/

/-- 40_checksum.md R83, the whole template of CRC8. -/
def Obligations.Crc8ComputesChecksumOfGroup0 : Prop :=
  decode 0x000601#24 = .ok .crc8 ∧
  (∀ s : State, exec .crc8 s = .next { s with regs := { s.regs with
    crc0 := crc8 s.regs.din0 s.regs.din1
    stat := s.regs.stat &&& 0x7F#8 } }) ∧
  crc8 0x00#8 0x00#8 = 0x81#8 ∧ crc8 0xFF#8 0xFF#8 = 0xAC#8 ∧ crc8 0xFF#8 0x00#8 = 0x00#8 ∧ crc8 0xBE#8 0xEF#8 = 0x92#8

/-- 40_checksum.md R84, the whole template of VERIFY. -/
def Obligations.VerifyChecksGroup0 : Prop :=
  decode 0x000602#24 = .ok .verify ∧
  (∀ s : State, exec .verify s = .next { s with regs := { s.regs with
    crc0 := crc8 s.regs.din0 s.regs.din1
    stat := (s.regs.stat &&& 0x7E#8) |||
      (if crc8 s.regs.din0 s.regs.din1 = s.regs.din2 then 0x01#8 else 0x00#8) } }) ∧
  (∀ s t : State, exec .verify s = .next t →
    (t.regs.ok0 = true ↔ s.regs.din2 = crc8 s.regs.din0 s.regs.din1) ∧ t.regs.ok1 = s.regs.ok1 ∧ t.regs.ill = false) ∧
  crc8 0xFF#8 0x00#8 = 0x00#8 ∧ crc8 0xBE#8 0xEF#8 = 0x92#8

/-- 41_status_decode.md R93, the whole template of DECODE. -/
def Obligations.DecodeWritesWordAndFlags : Prop :=
  decode 0x000603#24 = .ok .decode ∧
  (∀ s : State, exec .decode s = .next { s with regs := { s.regs with
    word0 := s.regs.din0 ++ s.regs.din1
    flags := statusDecode (s.regs.din0 ++ s.regs.din1)
    stat := s.regs.stat &&& 0x7F#8 } }) ∧
  (∀ s t : State, exec .decode s = .next t →
    (t.regs.statusFlag .alertPending = s.regs.din0.getLsbD 7 ∧ t.regs.statusFlag .heaterOn = s.regs.din0.getLsbD 5 ∧
      t.regs.statusFlag .humidityTrackingAlert = s.regs.din0.getLsbD 3 ∧
      t.regs.statusFlag .temperatureTrackingAlert = s.regs.din0.getLsbD 2) ∧
    (t.regs.statusFlag .systemResetDetected = s.regs.din1.getLsbD 4 ∧
      t.regs.statusFlag .lastCommandFailed = s.regs.din1.getLsbD 1 ∧
      t.regs.statusFlag .writeChecksumFailed = s.regs.din1.getLsbD 0)) ∧
  statusDecode 0x0000#16 = 0x00#8 ∧ statusDecode 0xFFFF#16 = 0x7F#8 ∧ statusDecode 0x53EC#16 = 0x00#8 ∧
  statusDecode 0x8013#16 = 0x47#8

/-- 42_conversion.md R107, the whole template of CONVC, with celsius in its integer form (R103). -/
def Obligations.ConvcConvertsGroup0ToCelsius : Prop :=
  decode 0x000604#24 = .ok .convc ∧
  (∀ s : State, exec .convc s = .next { s with regs := { s.regs with
    word0 := s.regs.din0 ++ s.regs.din1
    tc := BitVec.ofInt 16 (celsiusForm (rawCount s.regs.din0 s.regs.din1))
    stat := s.regs.stat &&& 0x7F#8 } }) ∧
  celsiusForm 0 = -4500 ∧ BitVec.ofInt 16 (-4500) = 0xEE6C#16 ∧ celsiusForm 65535 = 13000 ∧
  BitVec.ofInt 16 13000 = 0x32C8#16 ∧ celsiusForm 1 = -4500 ∧ celsiusForm 16849 = -1 ∧
  BitVec.ofInt 16 (-1) = 0xFFFF#16 ∧ (∀ r : Int, 16849 < r → r ≤ 65535 → 0 ≤ celsiusForm r) ∧
  celsiusForm 16850 = 0 ∧ celsiusForm 455 = -4379 ∧
  rawCount 0x66#8 0x57#8 = 26199 ∧ celsiusForm 26199 = 2496 ∧ BitVec.ofInt 16 2496 = 0x09C0#16

/-- 42_conversion.md R108, the whole template of CONVF, with fahrenheit in its integer form (R104). -/
def Obligations.ConvfConvertsGroup0ToFahrenheit : Prop :=
  decode 0x000605#24 = .ok .convf ∧
  (∀ s : State, exec .convf s = .next { s with regs := { s.regs with
    word0 := s.regs.din0 ++ s.regs.din1
    tf := BitVec.ofInt 16 (fahrenheitForm (rawCount s.regs.din0 s.regs.din1))
    stat := s.regs.stat &&& 0x7F#8 } }) ∧
  fahrenheitForm 0 = -4900 ∧ BitVec.ofInt 16 (-4900) = 0xECDC#16 ∧ fahrenheitForm 65535 = 26600 ∧
  BitVec.ofInt 16 26600 = 0x67E8#16 ∧ fahrenheitForm 10194 = 0 ∧ fahrenheitForm 3671 = -3136 ∧
  fahrenheitForm 698 = -4564 ∧ fahrenheitForm 26199 = 7693 ∧ BitVec.ofInt 16 7693 = 0x1E0D#16

/-- 42_conversion.md R109, the whole template of CONVRH, with humidity in its integer form (R105). Its count is DIN0 : DIN1. -/
def Obligations.ConvrhConvertsGroup0ToHumidity : Prop :=
  decode 0x000606#24 = .ok .convrh ∧
  (∀ s : State, exec .convrh s = .next { s with regs := { s.regs with
    word0 := s.regs.din0 ++ s.regs.din1
    rh := BitVec.ofInt 16 (humidityForm (rawCount s.regs.din0 s.regs.din1))
    stat := s.regs.stat &&& 0x7F#8 } }) ∧
  humidityForm 0 = 0 ∧ humidityForm 65535 = 10000 ∧ BitVec.ofInt 16 10000 = 0x2710#16 ∧ humidityForm 1 = 0 ∧
  humidityForm 2 = 0 ∧ humidityForm 3 = 0 ∧ humidityForm 4 = 1 ∧ humidityForm 4073 = 621 ∧ humidityForm 9034 = 1379 ∧
  rawCount 0x82#8 0x47#8 = 33351 ∧ humidityForm 33351 = 5089 ∧ BitVec.ofInt 16 5089 = 0x13E1#16

/-- 43_frames.md R120, the whole template of STATFRM: FLAGS is written whatever OK0 is. -/
def Obligations.StatfrmProcessesStatusFrame : Prop :=
  decode 0x000607#24 = .ok .statfrm ∧
  (∀ s : State, exec .statfrm s = .next { s with regs := { s.regs with
    word0 := s.regs.din0 ++ s.regs.din1
    crc0 := crc8 s.regs.din0 s.regs.din1
    flags := statusDecode (s.regs.din0 ++ s.regs.din1)
    stat := (s.regs.stat &&& 0x7E#8) |||
      (if crc8 s.regs.din0 s.regs.din1 = s.regs.din2 then 0x01#8 else 0x00#8) } }) ∧
  crc8 0x00#8 0x00#8 = 0x81#8 ∧ statusDecode 0x0000#16 = 0x00#8 ∧ crc8 0x80#8 0x13#8 = 0xB2#8 ∧
  statusDecode 0x8013#16 = 0x47#8

/-- 43_frames.md R121, the whole template of MEASFRM: TC and TF from group 0, RH from group 1, each group checked on its own,
FLAGS kept. -/
def Obligations.MeasfrmProcessesMeasurementFrame : Prop :=
  decode 0x000608#24 = .ok .measfrm ∧
  (∀ s : State, exec .measfrm s = .next { s with regs := { s.regs with
    word0 := s.regs.din0 ++ s.regs.din1
    word1 := s.regs.din3 ++ s.regs.din4
    crc0 := crc8 s.regs.din0 s.regs.din1
    crc1 := crc8 s.regs.din3 s.regs.din4
    tc := BitVec.ofInt 16 (celsiusForm (rawCount s.regs.din0 s.regs.din1))
    tf := BitVec.ofInt 16 (fahrenheitForm (rawCount s.regs.din0 s.regs.din1))
    rh := BitVec.ofInt 16 (humidityForm (rawCount s.regs.din3 s.regs.din4))
    stat := (s.regs.stat &&& 0x7C#8) |||
      (if crc8 s.regs.din0 s.regs.din1 = s.regs.din2 then 0x01#8 else 0x00#8) |||
      (if crc8 s.regs.din3 s.regs.din4 = s.regs.din5 then 0x02#8 else 0x00#8) } }) ∧
  crc8 0x00#8 0x00#8 = 0x81#8 ∧ celsiusForm 0 = -4500 ∧ fahrenheitForm 0 = -4900 ∧ humidityForm 0 = 0 ∧
  crc8 0x66#8 0x57#8 = 0x67#8 ∧ crc8 0x82#8 0x47#8 = 0xD1#8 ∧
  celsiusForm (rawCount 0x66#8 0x57#8) = 2496 ∧ fahrenheitForm (rawCount 0x66#8 0x57#8) = 7693 ∧
  humidityForm (rawCount 0x82#8 0x47#8) = 5089

/-- 60_exceptions.md R141: an OP write of an illegal opcode sets STAT.ILL and changes nothing else; ILL then stays 1 over every transaction
but a legal operation, which clears it, as a reset does; the port stays usable. -/
def Obligations.IllegalOpcodeSetsIllOnly : Prop :=
  (∀ c : Byte, illegalOpcode c = true → decode (0x000600#24 ||| c.setWidth 24) = .ok (.opIllegal c)) ∧
  (∀ (c : Byte) (s : State), illegalOpcode c = true → exec (.opIllegal c) s =
    .next { s with regs := { s.regs with stat := s.regs.stat ||| 0x80#8 } }) ∧
  (∀ (i : Instr) (s t : State), i.wellFormed = true → exec i s = .next t → s.regs.ill = true →
    (t.regs.ill = false ↔ i.isOperation = true)) ∧
  (∀ (s : State) (rest : List HostAction), s.pending = .reset :: rest → ∃ t, step s = .next t ∧ t.regs.ill = false) ∧
  (∀ (i : Instr) (s : State), i.wellFormed = true → ∃ t, exec i s = .next t)

/-- The model's choice for the terms that no word decodes to (DESIGN CHOICE, log 8; no rule of the spec speaks of them):
OP_ILLEGAL sets ILL whatever its code, legal codes included, WR at OP's address acts as the operation or the illegal opcode
that a write of OP with that byte decodes to, and so exec answers a next state on ill-formed terms too. -/
def Obligations.IllFormedTermsActAsTheModelChose : Prop :=
  (∀ (c : Byte) (s : State), exec (.opIllegal c) s =
    .next { s with regs := { s.regs with stat := s.regs.stat ||| 0x80#8 } }) ∧
  (∀ (c : Byte) (s : State), exec (.wr opAddress c) s = exec (decodeOpcode c) s) ∧
  (∀ (i : Instr) (s : State), ∃ t, exec i s = .next t)

/-! ## What no transaction does -/

/-- 30_encoding.md R63, "Writes": a legal operation leaves every port address outside its column reading as before, STAT
apart, clears ILL, keeps the OK bits it does not verify and the reserved bits of STAT, and returns no byte. -/
def Obligations.OperationsWriteOnlyTheirColumn : Prop :=
  ∀ (i : Instr) (s : State), i.isOperation = true → ∃ t, exec i s = .next t ∧
    (∀ a : Byte, a ≠ 0x07#8 → a ∉ writesColumn i → portRead t.regs a = portRead s.regs a) ∧
    t.regs.ill = false ∧ (writesOk0 i = false → t.regs.ok0 = s.regs.ok0) ∧
    (writesOk1 i = false → t.regs.ok1 = s.regs.ok1) ∧ t.regs.stat &&& 0x7C#8 = s.regs.stat &&& 0x7C#8 ∧
    t.returned = s.returned ∧ t.pending = s.pending

/-- 30_encoding.md R63, "Reads", and 10_state.md R29: what a legal operation writes depends only on the registers its "Reads"
column names, never on STAT or on an earlier result. -/
def Obligations.ResultsDependOnlyOnTheReadsColumn : Prop :=
  ∀ (i : Instr) (s s' t t' : State), i.isOperation = true →
    (∀ a ∈ readsColumn i, portRead s.regs a = portRead s'.regs a) →
    exec i s = .next t → exec i s' = .next t' →
    (∀ a ∈ writesColumn i, portRead t.regs a = portRead t'.regs a) ∧
    (writesOk0 i = true → t.regs.ok0 = t'.regs.ok0) ∧ (writesOk1 i = true → t.regs.ok1 = t'.regs.ok1)

/-- 10_state.md R30: the registers after a step depend only on the registers before it and the host's action, not on what the
host does later or has been given before. -/
def Obligations.RegistersAfterDependOnlyOnRegistersBefore : Prop :=
  ∀ (s s' t t' : State) (act : HostAction) (rest rest' : List HostAction),
    s.pending = act :: rest → s'.pending = act :: rest' → s.regs = s'.regs →
    step s = .next t → step s' = .next t' →
    t.regs = t'.regs ∧ ∃ out, t.returned = s.returned ++ out ∧ t'.returned = s'.returned ++ out

/-- 43_frames.md R122: no result depends on a checksum match. Two states with the same data bytes, whatever their checksum
bytes and STAT, get the same results from the frame operations, OK0 and OK1 apart. -/
def Obligations.ChecksumOutcomeNeverGatesResults : Prop :=
  (∀ s s' t t' : State, SameData s.regs s'.regs → exec .statfrm s = .next t → exec .statfrm s' = .next t' →
    t.regs.word0 = t'.regs.word0 ∧ t.regs.crc0 = t'.regs.crc0 ∧ t.regs.flags = t'.regs.flags) ∧
  (∀ s s' t t' : State, SameData s.regs s'.regs → exec .measfrm s = .next t → exec .measfrm s' = .next t' →
    t.regs.word0 = t'.regs.word0 ∧ t.regs.word1 = t'.regs.word1 ∧ t.regs.crc0 = t'.regs.crc0 ∧
    t.regs.crc1 = t'.regs.crc1 ∧ t.regs.tc = t'.regs.tc ∧ t.regs.tf = t'.regs.tf ∧ t.regs.rh = t'.regs.rh) ∧
  (∀ s t : State, exec .measfrm s = .next t →
    (t.regs.ok0 = true ↔ s.regs.din2 = t.regs.crc0) ∧ (t.regs.ok1 = true ↔ s.regs.din5 = t.regs.crc1)) ∧
  (∀ s t : State, exec .statfrm s = .next t → (t.regs.ok0 = true ↔ s.regs.din2 = t.regs.crc0))

/-- 10_state.md R23, over steps: STAT.ILL changes only at an OP write or a reset, OK0 only at VERIFY, STATFRM, MEASFRM or a
reset, and OK1 only at MEASFRM or a reset. -/
def Obligations.StatBitsChangeOnlyAtTheirWriters : Prop :=
  ∀ s t : State, step s = .next t →
    (∃ rest, s.pending = .reset :: rest) ∨
    (∃ w rest i, s.pending = .transaction w :: rest ∧ decode w = .ok i ∧
      (t.regs.ill ≠ s.regs.ill → i.isOpWrite = true) ∧ (t.regs.ok0 ≠ s.regs.ok0 → writesOk0 i = true) ∧
      (t.regs.ok1 ≠ s.regs.ok1 → writesOk1 i = true) ∧ (i.isOpWrite = true → t.regs.ill = !i.isOperation))

/-! ## The CRC -/

/-- 40_checksum.md R80: the checksum that truncates at every shift is the source's, which lets the register grow and keeps
the low 8 bits at the end. -/
def Obligations.Crc8AgreesWithUntruncatedAlgorithm : Prop :=
  ∀ a b : Byte, (crc8 a b).toNat = wideCrc8 a.toNat b.toNat

/-- 40_checksum.md R81, affine form. -/
def Obligations.Crc8AffineForm : Prop :=
  ∀ a b : Byte, crc8 a b = 0x81#8 ^^^ affineSum (a ++ b)

/-- 40_checksum.md R81, polynomial form: ((a : b) ^ 0xFF00) * x^8 is a multiple of P(x) plus the checksum, a polynomial of
degree below 8. -/
def Obligations.Crc8IsRemainderModuloPolynomial : Prop :=
  ∀ a b : Byte, ∃ q : BitVec 16,
    (((a ++ b : Word16) ^^^ 0xFF00#16).setWidth 24 <<< 8 : BitVec 24) =
      polynomialProduct q 0x131#24 ^^^ (crc8 a b).setWidth 24

/-- 40_checksum.md R81, consequences: for a fixed first byte the checksum is a bijection on bytes, and flipping any single
data bit changes it. -/
def Obligations.Crc8DetectsEverySingleBitFlip : Prop :=
  (∀ a : Byte, Function.Injective (crc8 a) ∧ Function.Surjective (crc8 a)) ∧
  (∀ (w : Word16) (i : Nat), i < 16 →
    crc8 (hiByte (w ^^^ (1#16 <<< i))) (loByte (w ^^^ (1#16 <<< i))) ≠ crc8 (hiByte w) (loByte w))

/-- 40_checksum.md R82: the function `verify` is true exactly when the received byte is the checksum, and it always accepts
the checksum itself. The operation VERIFY is the subject of VerifyChecksGroup0. -/
def Obligations.VerifyAcceptsExactlyTheChecksum : Prop :=
  (∀ a b c : Byte, verify a b c = true ↔ crc8 a b = c) ∧ (∀ a b : Byte, verify a b (crc8 a b) = true)

/-! ## The status decoder -/

/-- 41_status_decode.md R91: the formula, bit 7, the ignored bits, and the bijection between the words with no ignored bit
set and the bytes 0x00 to 0x7F. -/
def Obligations.StatusDecodeIsTheProjection : Prop :=
  (∀ w : Word16, (statusDecode w).toNat =
    64 * (w.getLsbD 15).toNat + 32 * (w.getLsbD 13).toNat + 16 * (w.getLsbD 11).toNat + 8 * (w.getLsbD 10).toNat +
    4 * (w.getLsbD 4).toNat + 2 * (w.getLsbD 1).toNat + (w.getLsbD 0).toNat) ∧
  (∀ w : Word16, (statusDecode w).getLsbD 7 = false) ∧
  (∀ w : Word16, statusDecode w = statusDecode (w &&& 0xAC13#16)) ∧
  (∀ w w' : Word16, w &&& ~~~0xAC13#16 = 0 → w' &&& ~~~0xAC13#16 = 0 → statusDecode w = statusDecode w' → w = w') ∧
  (∀ f : Byte, f.toNat ≤ 0x7F → ∃ w : Word16, w &&& ~~~0xAC13#16 = 0 ∧ statusDecode w = f)

/-- 41_status_decode.md R92: each flag depends only on its own bit; flipping any other bit leaves the flag unchanged, and
flipping its own bit flips it. -/
def Obligations.StatusFlagsAreUncoupled : Prop :=
  ∀ (f : StatusFlag) (w : Word16) (i : Nat), i < 16 →
    (i ≠ f.wordBit → (statusDecode (w ^^^ (1#16 <<< i))).getLsbD f.flagsBit = (statusDecode w).getLsbD f.flagsBit) ∧
    (i = f.wordBit → (statusDecode (w ^^^ (1#16 <<< i))).getLsbD f.flagsBit = !(statusDecode w).getLsbD f.flagsBit)

/-! ## The conversions -/

/-- 42_conversion.md R102: each conversion is the integer strictly nearest to 100 times the exact value, so no input gives a
tie; the rounding formula gives that integer for every rational that is no half-integer; and no value comes closer to a tie
than 1/26214 (celsius, humidity) or 1/8738 (fahrenheit) of a centi-unit, bounds that are reached. -/
def Obligations.ConversionsRoundToNearest : Prop :=
  (∀ r : Word16, Nearest (celsius r) (100 * (-45 * 65535 + 175 * (r.toNat : Int))) ∧
    Nearest (fahrenheit r) (100 * (-49 * 65535 + 315 * (r.toNat : Int))) ∧
    Nearest (humidity r) (100 * (100 * (r.toNat : Int)))) ∧
  (∀ n d v : Int, 0 < d → -d < 2 * (d * v - n) → 2 * (d * v - n) < d → roundNearest n d = v) ∧
  (∀ (r : Word16) (k : Int),
    5 ≤ |2 * (100 * (-45 * 65535 + 175 * (r.toNat : Int))) - 65535 * (2 * k + 1)| ∧
    15 ≤ |2 * (100 * (-49 * 65535 + 315 * (r.toNat : Int))) - 65535 * (2 * k + 1)| ∧
    5 ≤ |2 * (100 * (100 * (r.toNat : Int))) - 65535 * (2 * k + 1)|) ∧
  (∃ (r : Word16) (k : Int), |2 * (100 * (-45 * 65535 + 175 * (r.toNat : Int))) - 65535 * (2 * k + 1)| = 5) ∧
  (∃ (r : Word16) (k : Int), |2 * (100 * (-49 * 65535 + 315 * (r.toNat : Int))) - 65535 * (2 * k + 1)| = 15) ∧
  (∃ (r : Word16) (k : Int), |2 * (100 * (100 * (r.toNat : Int))) - 65535 * (2 * k + 1)| = 5)

/-- 42_conversion.md R103, R104, R105: the integer forms; and TF is not derivable from TC by 9/5·TC + 3200 rounded, the first
raw count where they differ being 2. -/
def Obligations.ConversionsHaveTheirIntegerForms : Prop :=
  (∀ r : Word16, celsius r = celsiusForm r.toNat ∧ fahrenheit r = fahrenheitForm r.toNat ∧
    humidity r = humidityForm r.toNat) ∧
  fahrenheit 2#16 = -4899 ∧ roundNearest (9 * celsius 2#16 + 5 * 3200) 5 = -4898 ∧
  (∀ r : Word16, r.toNat < 2 → roundNearest (9 * celsius r + 5 * 3200) 5 = fahrenheit r)

/-- 42_conversion.md R106: the integer forms fit a 32-bit unsigned datapath: unsigned 32-bit arithmetic, with a divisor of 17
bits, gives the same quotients, the largest numerators are those stated, the quotients stay within their bounds, and every
result fits a signed 16-bit register and lies in -4900 to 26600. -/
def Obligations.ConversionsFitA32BitDatapath : Prop :=
  (∀ r : Word16,
    celsius r = ((((35000#32 * r.setWidth 32 + 65535#32) / 131070#32).toNat : Int) - 4500) ∧
    fahrenheit r = ((((63000#32 * r.setWidth 32 + 65535#32) / 131070#32).toNat : Int) - 4900) ∧
    humidity r = (((20000#32 * r.setWidth 32 + 65535#32) / 131070#32).toNat : Int)) ∧
  35000 * 65535 + 65535 = 2293790535 ∧ 63000 * 65535 + 65535 = 4128770535 ∧ 20000 * 65535 + 65535 = 1310765535 ∧
  (2293790535 < 2 ^ 32 ∧ 4128770535 < 2 ^ 32 ∧ 1310765535 < 2 ^ 32 ∧ 2 ^ 16 ≤ 131070 ∧ 131070 < 2 ^ 17) ∧
  (∀ r : Word16,
    ((35000#32 * r.setWidth 32 + 65535#32) / 131070#32).toNat ≤ 17500 ∧
    ((63000#32 * r.setWidth 32 + 65535#32) / 131070#32).toNat ≤ 31500 ∧
    ((20000#32 * r.setWidth 32 + 65535#32) / 131070#32).toNat ≤ 10000) ∧
  (∀ r : Word16, ∀ v ∈ [celsius r, fahrenheit r, humidity r],
    -4900 ≤ v ∧ v ≤ 26600 ∧ (enc16 v).toInt = v)

/-- 42_conversion.md R110: ranges with their ends at r = 0 and r = 65535, monotonicity, and steps of at most 1. -/
def Obligations.ConversionRangesAndSteps : Prop :=
  (∀ r : Word16, (-4500 ≤ celsius r ∧ celsius r ≤ 13000) ∧ (-4900 ≤ fahrenheit r ∧ fahrenheit r ≤ 26600) ∧
    (0 ≤ humidity r ∧ humidity r ≤ 10000)) ∧
  (celsius 0x0000#16 = -4500 ∧ celsius 0xFFFF#16 = 13000 ∧ fahrenheit 0x0000#16 = -4900 ∧
    fahrenheit 0xFFFF#16 = 26600 ∧ humidity 0x0000#16 = 0 ∧ humidity 0xFFFF#16 = 10000) ∧
  (∀ r r' : Word16, r.toNat ≤ r'.toNat → celsius r ≤ celsius r' ∧ fahrenheit r ≤ fahrenheit r' ∧
    humidity r ≤ humidity r') ∧
  (∀ r r' : Word16, r'.toNat = r.toNat + 1 → celsius r' ≤ celsius r + 1 ∧ fahrenheit r' ≤ fahrenheit r + 1 ∧
    humidity r' ≤ humidity r + 1)

/-- 10_state.md R27, 42_conversion.md R101 to R105, through the operations: the physical value that a result register holds is
within half a hundredth of the exact value of the source's formula at the raw count the operation took. -/
def Obligations.ReadingsAreNearestHundredths : Prop :=
  ∀ s : State,
    (∃ t, exec .convc s = .next t ∧
      |reading t.regs.tc - (-45 + 175 * (s.regs.group0Word.toNat : Rat) / 65535)| < 1 / 200) ∧
    (∃ t, exec .convf s = .next t ∧
      |reading t.regs.tf - (-49 + 315 * (s.regs.group0Word.toNat : Rat) / 65535)| < 1 / 200) ∧
    (∃ t, exec .convrh s = .next t ∧
      |reading t.regs.rh - 100 * (s.regs.group0Word.toNat : Rat) / 65535| < 1 / 200) ∧
    (∃ t, exec .measfrm s = .next t ∧
      |reading t.regs.tc - (-45 + 175 * (s.regs.group0Word.toNat : Rat) / 65535)| < 1 / 200 ∧
      |reading t.regs.tf - (-49 + 315 * (s.regs.group0Word.toNat : Rat) / 65535)| < 1 / 200 ∧
      |reading t.regs.rh - 100 * (s.regs.group1Word.toNat : Rat) / 65535| < 1 / 200)

/-! ## Invariants and runs -/

/-- The invariant of the register file holds at reset. -/
def Obligations.InvariantHoldsAtReset : Prop := State.reset.Inv

/-- Every step keeps it, from every state that has it: the reserved bits of STAT and FLAGS stay 0 (10_state.md R23, R26), and
TC, TF and RH stay in the ranges of 42_conversion.md R110. -/
def Obligations.EveryStepKeepsTheInvariant : Prop :=
  ∀ s t : State, s.Inv → step s = .next t → t.Inv

/-- What the invariant says at the port: RD of STAT and of FLAGS returns the reserved bits as 0 (10_state.md R23, R26). -/
def Obligations.ReservedBitsReadZero : Prop :=
  ∀ s : State, s.Inv → (∃ t x, exec (.rd 0x07#8) s = .next t ∧ t.returned = s.returned ++ [x] ∧ x &&& 0x7C#8 = 0x00#8) ∧
    (∃ t x, exec (.rd 0x0E#8) s = .next t ∧ t.returned = s.returned ++ [x] ∧ x &&& 0x80#8 = 0x00#8)

/-- Group 1's results cohere at reset. -/
def Obligations.GroupOneCoherenceHoldsAtReset : Prop := State.reset.regs.GroupOneCoherent

/-- Every step keeps them coherent: because MEASFRM alone writes CRC1, WORD1 and OK1 (10_state.md R20, R23), CRC1 is always
the checksum of WORD1 once a measurement has been processed. -/
def Obligations.EveryStepKeepsGroupOneCoherent : Prop :=
  ∀ s t : State, s.regs.GroupOneCoherent → step s = .next t → t.regs.GroupOneCoherent

/-- 70_reset_and_hazards.md R163, R167: every run of host actions that are resets or transactions takes effect to its last
action, one step each, and stops there; the bytes given to the host before it are kept. -/
def Obligations.EveryRunOfTransactionsEnds : Prop :=
  ∀ s : State, s.safe = true → ∃ t out, core.run s.pending.length s = .next t ∧ t.pending = [] ∧
    t.returned = s.returned ++ out ∧ out.length ≤ s.pending.length

/-- 20_memory.md R47, 30_encoding.md R64: the host's plan is taken in order, one action a step: after as many steps as the
plan's first part has actions, the plan is its second part, and the state is the one that the first part alone leads to. -/
def Obligations.HostActionsTakeEffectInOrder : Prop :=
  ∀ (s t : State) (first later : List HostAction), s.pending = first ++ later → core.run first.length s = .next t →
    t.pending = later ∧ ∃ u, core.run first.length { s with pending := first } = .next u ∧ u.pending = [] ∧
      u.regs = t.regs ∧ u.returned = t.returned
end

