-- ==== Sys2Proof/Laws/State.lean ====
section
/-! SUPPORT. What each update of the registers leaves in each field, so that no proof unfolds a record update. -/

namespace Sys2Proof.Machine

variable (r : Regs) (v : Byte) (s : State) (a : HostAction)

@[simp] theorem Regs.putDin0_din0 : (r.putDin0 v).din0 = v := rfl
@[simp] theorem Regs.putDin0_din1 : (r.putDin0 v).din1 = r.din1 := rfl
@[simp] theorem Regs.putDin0_din2 : (r.putDin0 v).din2 = r.din2 := rfl
@[simp] theorem Regs.putDin0_din3 : (r.putDin0 v).din3 = r.din3 := rfl
@[simp] theorem Regs.putDin0_din4 : (r.putDin0 v).din4 = r.din4 := rfl
@[simp] theorem Regs.putDin0_din5 : (r.putDin0 v).din5 = r.din5 := rfl
@[simp] theorem Regs.putDin0_stat : (r.putDin0 v).stat = r.stat := rfl
@[simp] theorem Regs.putDin0_crc0 : (r.putDin0 v).crc0 = r.crc0 := rfl
@[simp] theorem Regs.putDin0_crc1 : (r.putDin0 v).crc1 = r.crc1 := rfl
@[simp] theorem Regs.putDin0_word0 : (r.putDin0 v).word0 = r.word0 := rfl
@[simp] theorem Regs.putDin0_word1 : (r.putDin0 v).word1 = r.word1 := rfl
@[simp] theorem Regs.putDin0_flags : (r.putDin0 v).flags = r.flags := rfl
@[simp] theorem Regs.putDin0_tc : (r.putDin0 v).tc = r.tc := rfl
@[simp] theorem Regs.putDin0_tf : (r.putDin0 v).tf = r.tf := rfl
@[simp] theorem Regs.putDin0_rh : (r.putDin0 v).rh = r.rh := rfl

@[simp] theorem Regs.putDin1_din0 : (r.putDin1 v).din0 = r.din0 := rfl
@[simp] theorem Regs.putDin1_din1 : (r.putDin1 v).din1 = v := rfl
@[simp] theorem Regs.putDin1_din2 : (r.putDin1 v).din2 = r.din2 := rfl
@[simp] theorem Regs.putDin1_din3 : (r.putDin1 v).din3 = r.din3 := rfl
@[simp] theorem Regs.putDin1_din4 : (r.putDin1 v).din4 = r.din4 := rfl
@[simp] theorem Regs.putDin1_din5 : (r.putDin1 v).din5 = r.din5 := rfl
@[simp] theorem Regs.putDin1_stat : (r.putDin1 v).stat = r.stat := rfl
@[simp] theorem Regs.putDin1_crc0 : (r.putDin1 v).crc0 = r.crc0 := rfl
@[simp] theorem Regs.putDin1_crc1 : (r.putDin1 v).crc1 = r.crc1 := rfl
@[simp] theorem Regs.putDin1_word0 : (r.putDin1 v).word0 = r.word0 := rfl
@[simp] theorem Regs.putDin1_word1 : (r.putDin1 v).word1 = r.word1 := rfl
@[simp] theorem Regs.putDin1_flags : (r.putDin1 v).flags = r.flags := rfl
@[simp] theorem Regs.putDin1_tc : (r.putDin1 v).tc = r.tc := rfl
@[simp] theorem Regs.putDin1_tf : (r.putDin1 v).tf = r.tf := rfl
@[simp] theorem Regs.putDin1_rh : (r.putDin1 v).rh = r.rh := rfl

@[simp] theorem Regs.putDin2_din0 : (r.putDin2 v).din0 = r.din0 := rfl
@[simp] theorem Regs.putDin2_din1 : (r.putDin2 v).din1 = r.din1 := rfl
@[simp] theorem Regs.putDin2_din2 : (r.putDin2 v).din2 = v := rfl
@[simp] theorem Regs.putDin2_din3 : (r.putDin2 v).din3 = r.din3 := rfl
@[simp] theorem Regs.putDin2_din4 : (r.putDin2 v).din4 = r.din4 := rfl
@[simp] theorem Regs.putDin2_din5 : (r.putDin2 v).din5 = r.din5 := rfl
@[simp] theorem Regs.putDin2_stat : (r.putDin2 v).stat = r.stat := rfl
@[simp] theorem Regs.putDin2_crc0 : (r.putDin2 v).crc0 = r.crc0 := rfl
@[simp] theorem Regs.putDin2_crc1 : (r.putDin2 v).crc1 = r.crc1 := rfl
@[simp] theorem Regs.putDin2_word0 : (r.putDin2 v).word0 = r.word0 := rfl
@[simp] theorem Regs.putDin2_word1 : (r.putDin2 v).word1 = r.word1 := rfl
@[simp] theorem Regs.putDin2_flags : (r.putDin2 v).flags = r.flags := rfl
@[simp] theorem Regs.putDin2_tc : (r.putDin2 v).tc = r.tc := rfl
@[simp] theorem Regs.putDin2_tf : (r.putDin2 v).tf = r.tf := rfl
@[simp] theorem Regs.putDin2_rh : (r.putDin2 v).rh = r.rh := rfl

@[simp] theorem Regs.putDin3_din0 : (r.putDin3 v).din0 = r.din0 := rfl
@[simp] theorem Regs.putDin3_din1 : (r.putDin3 v).din1 = r.din1 := rfl
@[simp] theorem Regs.putDin3_din2 : (r.putDin3 v).din2 = r.din2 := rfl
@[simp] theorem Regs.putDin3_din3 : (r.putDin3 v).din3 = v := rfl
@[simp] theorem Regs.putDin3_din4 : (r.putDin3 v).din4 = r.din4 := rfl
@[simp] theorem Regs.putDin3_din5 : (r.putDin3 v).din5 = r.din5 := rfl
@[simp] theorem Regs.putDin3_stat : (r.putDin3 v).stat = r.stat := rfl
@[simp] theorem Regs.putDin3_crc0 : (r.putDin3 v).crc0 = r.crc0 := rfl
@[simp] theorem Regs.putDin3_crc1 : (r.putDin3 v).crc1 = r.crc1 := rfl
@[simp] theorem Regs.putDin3_word0 : (r.putDin3 v).word0 = r.word0 := rfl
@[simp] theorem Regs.putDin3_word1 : (r.putDin3 v).word1 = r.word1 := rfl
@[simp] theorem Regs.putDin3_flags : (r.putDin3 v).flags = r.flags := rfl
@[simp] theorem Regs.putDin3_tc : (r.putDin3 v).tc = r.tc := rfl
@[simp] theorem Regs.putDin3_tf : (r.putDin3 v).tf = r.tf := rfl
@[simp] theorem Regs.putDin3_rh : (r.putDin3 v).rh = r.rh := rfl

@[simp] theorem Regs.putDin4_din0 : (r.putDin4 v).din0 = r.din0 := rfl
@[simp] theorem Regs.putDin4_din1 : (r.putDin4 v).din1 = r.din1 := rfl
@[simp] theorem Regs.putDin4_din2 : (r.putDin4 v).din2 = r.din2 := rfl
@[simp] theorem Regs.putDin4_din3 : (r.putDin4 v).din3 = r.din3 := rfl
@[simp] theorem Regs.putDin4_din4 : (r.putDin4 v).din4 = v := rfl
@[simp] theorem Regs.putDin4_din5 : (r.putDin4 v).din5 = r.din5 := rfl
@[simp] theorem Regs.putDin4_stat : (r.putDin4 v).stat = r.stat := rfl
@[simp] theorem Regs.putDin4_crc0 : (r.putDin4 v).crc0 = r.crc0 := rfl
@[simp] theorem Regs.putDin4_crc1 : (r.putDin4 v).crc1 = r.crc1 := rfl
@[simp] theorem Regs.putDin4_word0 : (r.putDin4 v).word0 = r.word0 := rfl
@[simp] theorem Regs.putDin4_word1 : (r.putDin4 v).word1 = r.word1 := rfl
@[simp] theorem Regs.putDin4_flags : (r.putDin4 v).flags = r.flags := rfl
@[simp] theorem Regs.putDin4_tc : (r.putDin4 v).tc = r.tc := rfl
@[simp] theorem Regs.putDin4_tf : (r.putDin4 v).tf = r.tf := rfl
@[simp] theorem Regs.putDin4_rh : (r.putDin4 v).rh = r.rh := rfl

@[simp] theorem Regs.putDin5_din0 : (r.putDin5 v).din0 = r.din0 := rfl
@[simp] theorem Regs.putDin5_din1 : (r.putDin5 v).din1 = r.din1 := rfl
@[simp] theorem Regs.putDin5_din2 : (r.putDin5 v).din2 = r.din2 := rfl
@[simp] theorem Regs.putDin5_din3 : (r.putDin5 v).din3 = r.din3 := rfl
@[simp] theorem Regs.putDin5_din4 : (r.putDin5 v).din4 = r.din4 := rfl
@[simp] theorem Regs.putDin5_din5 : (r.putDin5 v).din5 = v := rfl
@[simp] theorem Regs.putDin5_stat : (r.putDin5 v).stat = r.stat := rfl
@[simp] theorem Regs.putDin5_crc0 : (r.putDin5 v).crc0 = r.crc0 := rfl
@[simp] theorem Regs.putDin5_crc1 : (r.putDin5 v).crc1 = r.crc1 := rfl
@[simp] theorem Regs.putDin5_word0 : (r.putDin5 v).word0 = r.word0 := rfl
@[simp] theorem Regs.putDin5_word1 : (r.putDin5 v).word1 = r.word1 := rfl
@[simp] theorem Regs.putDin5_flags : (r.putDin5 v).flags = r.flags := rfl
@[simp] theorem Regs.putDin5_tc : (r.putDin5 v).tc = r.tc := rfl
@[simp] theorem Regs.putDin5_tf : (r.putDin5 v).tf = r.tf := rfl
@[simp] theorem Regs.putDin5_rh : (r.putDin5 v).rh = r.rh := rfl

@[simp] theorem raiseIllegal_din0 : (raiseIllegal r).din0 = r.din0 := rfl
@[simp] theorem raiseIllegal_din1 : (raiseIllegal r).din1 = r.din1 := rfl
@[simp] theorem raiseIllegal_din2 : (raiseIllegal r).din2 = r.din2 := rfl
@[simp] theorem raiseIllegal_din3 : (raiseIllegal r).din3 = r.din3 := rfl
@[simp] theorem raiseIllegal_din4 : (raiseIllegal r).din4 = r.din4 := rfl
@[simp] theorem raiseIllegal_din5 : (raiseIllegal r).din5 = r.din5 := rfl
@[simp] theorem raiseIllegal_stat : (raiseIllegal r).stat = putIll r.stat true := rfl
@[simp] theorem raiseIllegal_crc0 : (raiseIllegal r).crc0 = r.crc0 := rfl
@[simp] theorem raiseIllegal_crc1 : (raiseIllegal r).crc1 = r.crc1 := rfl
@[simp] theorem raiseIllegal_word0 : (raiseIllegal r).word0 = r.word0 := rfl
@[simp] theorem raiseIllegal_word1 : (raiseIllegal r).word1 = r.word1 := rfl
@[simp] theorem raiseIllegal_flags : (raiseIllegal r).flags = r.flags := rfl
@[simp] theorem raiseIllegal_tc : (raiseIllegal r).tc = r.tc := rfl
@[simp] theorem raiseIllegal_tf : (raiseIllegal r).tf = r.tf := rfl
@[simp] theorem raiseIllegal_rh : (raiseIllegal r).rh = r.rh := rfl

@[simp] theorem opCrc8_din0 : (opCrc8 r).din0 = r.din0 := rfl
@[simp] theorem opCrc8_din1 : (opCrc8 r).din1 = r.din1 := rfl
@[simp] theorem opCrc8_din2 : (opCrc8 r).din2 = r.din2 := rfl
@[simp] theorem opCrc8_din3 : (opCrc8 r).din3 = r.din3 := rfl
@[simp] theorem opCrc8_din4 : (opCrc8 r).din4 = r.din4 := rfl
@[simp] theorem opCrc8_din5 : (opCrc8 r).din5 = r.din5 := rfl
@[simp] theorem opCrc8_stat : (opCrc8 r).stat = legalStat r.stat := rfl
@[simp] theorem opCrc8_crc0 : (opCrc8 r).crc0 = crc8 r.din0 r.din1 := rfl
@[simp] theorem opCrc8_crc1 : (opCrc8 r).crc1 = r.crc1 := rfl
@[simp] theorem opCrc8_word0 : (opCrc8 r).word0 = r.word0 := rfl
@[simp] theorem opCrc8_word1 : (opCrc8 r).word1 = r.word1 := rfl
@[simp] theorem opCrc8_flags : (opCrc8 r).flags = r.flags := rfl
@[simp] theorem opCrc8_tc : (opCrc8 r).tc = r.tc := rfl
@[simp] theorem opCrc8_tf : (opCrc8 r).tf = r.tf := rfl
@[simp] theorem opCrc8_rh : (opCrc8 r).rh = r.rh := rfl

@[simp] theorem opVerify_din0 : (opVerify r).din0 = r.din0 := rfl
@[simp] theorem opVerify_din1 : (opVerify r).din1 = r.din1 := rfl
@[simp] theorem opVerify_din2 : (opVerify r).din2 = r.din2 := rfl
@[simp] theorem opVerify_din3 : (opVerify r).din3 = r.din3 := rfl
@[simp] theorem opVerify_din4 : (opVerify r).din4 = r.din4 := rfl
@[simp] theorem opVerify_din5 : (opVerify r).din5 = r.din5 := rfl
@[simp] theorem opVerify_stat : (opVerify r).stat = legalStat (putOk0 r.stat (verify r.din0 r.din1 r.din2)) := rfl
@[simp] theorem opVerify_crc0 : (opVerify r).crc0 = crc8 r.din0 r.din1 := rfl
@[simp] theorem opVerify_crc1 : (opVerify r).crc1 = r.crc1 := rfl
@[simp] theorem opVerify_word0 : (opVerify r).word0 = r.word0 := rfl
@[simp] theorem opVerify_word1 : (opVerify r).word1 = r.word1 := rfl
@[simp] theorem opVerify_flags : (opVerify r).flags = r.flags := rfl
@[simp] theorem opVerify_tc : (opVerify r).tc = r.tc := rfl
@[simp] theorem opVerify_tf : (opVerify r).tf = r.tf := rfl
@[simp] theorem opVerify_rh : (opVerify r).rh = r.rh := rfl

@[simp] theorem opDecode_din0 : (opDecode r).din0 = r.din0 := rfl
@[simp] theorem opDecode_din1 : (opDecode r).din1 = r.din1 := rfl
@[simp] theorem opDecode_din2 : (opDecode r).din2 = r.din2 := rfl
@[simp] theorem opDecode_din3 : (opDecode r).din3 = r.din3 := rfl
@[simp] theorem opDecode_din4 : (opDecode r).din4 = r.din4 := rfl
@[simp] theorem opDecode_din5 : (opDecode r).din5 = r.din5 := rfl
@[simp] theorem opDecode_stat : (opDecode r).stat = legalStat r.stat := rfl
@[simp] theorem opDecode_crc0 : (opDecode r).crc0 = r.crc0 := rfl
@[simp] theorem opDecode_crc1 : (opDecode r).crc1 = r.crc1 := rfl
@[simp] theorem opDecode_word0 : (opDecode r).word0 = wordOf r.din0 r.din1 := rfl
@[simp] theorem opDecode_word1 : (opDecode r).word1 = r.word1 := rfl
@[simp] theorem opDecode_flags : (opDecode r).flags = statusDecode (wordOf r.din0 r.din1) := rfl
@[simp] theorem opDecode_tc : (opDecode r).tc = r.tc := rfl
@[simp] theorem opDecode_tf : (opDecode r).tf = r.tf := rfl
@[simp] theorem opDecode_rh : (opDecode r).rh = r.rh := rfl

@[simp] theorem opConvc_din0 : (opConvc r).din0 = r.din0 := rfl
@[simp] theorem opConvc_din1 : (opConvc r).din1 = r.din1 := rfl
@[simp] theorem opConvc_din2 : (opConvc r).din2 = r.din2 := rfl
@[simp] theorem opConvc_din3 : (opConvc r).din3 = r.din3 := rfl
@[simp] theorem opConvc_din4 : (opConvc r).din4 = r.din4 := rfl
@[simp] theorem opConvc_din5 : (opConvc r).din5 = r.din5 := rfl
@[simp] theorem opConvc_stat : (opConvc r).stat = legalStat r.stat := rfl
@[simp] theorem opConvc_crc0 : (opConvc r).crc0 = r.crc0 := rfl
@[simp] theorem opConvc_crc1 : (opConvc r).crc1 = r.crc1 := rfl
@[simp] theorem opConvc_word0 : (opConvc r).word0 = wordOf r.din0 r.din1 := rfl
@[simp] theorem opConvc_word1 : (opConvc r).word1 = r.word1 := rfl
@[simp] theorem opConvc_flags : (opConvc r).flags = r.flags := rfl
@[simp] theorem opConvc_tc : (opConvc r).tc = enc16 (celsius (wordOf r.din0 r.din1)) := rfl
@[simp] theorem opConvc_tf : (opConvc r).tf = r.tf := rfl
@[simp] theorem opConvc_rh : (opConvc r).rh = r.rh := rfl

@[simp] theorem opConvf_din0 : (opConvf r).din0 = r.din0 := rfl
@[simp] theorem opConvf_din1 : (opConvf r).din1 = r.din1 := rfl
@[simp] theorem opConvf_din2 : (opConvf r).din2 = r.din2 := rfl
@[simp] theorem opConvf_din3 : (opConvf r).din3 = r.din3 := rfl
@[simp] theorem opConvf_din4 : (opConvf r).din4 = r.din4 := rfl
@[simp] theorem opConvf_din5 : (opConvf r).din5 = r.din5 := rfl
@[simp] theorem opConvf_stat : (opConvf r).stat = legalStat r.stat := rfl
@[simp] theorem opConvf_crc0 : (opConvf r).crc0 = r.crc0 := rfl
@[simp] theorem opConvf_crc1 : (opConvf r).crc1 = r.crc1 := rfl
@[simp] theorem opConvf_word0 : (opConvf r).word0 = wordOf r.din0 r.din1 := rfl
@[simp] theorem opConvf_word1 : (opConvf r).word1 = r.word1 := rfl
@[simp] theorem opConvf_flags : (opConvf r).flags = r.flags := rfl
@[simp] theorem opConvf_tc : (opConvf r).tc = r.tc := rfl
@[simp] theorem opConvf_tf : (opConvf r).tf = enc16 (fahrenheit (wordOf r.din0 r.din1)) := rfl
@[simp] theorem opConvf_rh : (opConvf r).rh = r.rh := rfl

@[simp] theorem opConvrh_din0 : (opConvrh r).din0 = r.din0 := rfl
@[simp] theorem opConvrh_din1 : (opConvrh r).din1 = r.din1 := rfl
@[simp] theorem opConvrh_din2 : (opConvrh r).din2 = r.din2 := rfl
@[simp] theorem opConvrh_din3 : (opConvrh r).din3 = r.din3 := rfl
@[simp] theorem opConvrh_din4 : (opConvrh r).din4 = r.din4 := rfl
@[simp] theorem opConvrh_din5 : (opConvrh r).din5 = r.din5 := rfl
@[simp] theorem opConvrh_stat : (opConvrh r).stat = legalStat r.stat := rfl
@[simp] theorem opConvrh_crc0 : (opConvrh r).crc0 = r.crc0 := rfl
@[simp] theorem opConvrh_crc1 : (opConvrh r).crc1 = r.crc1 := rfl
@[simp] theorem opConvrh_word0 : (opConvrh r).word0 = wordOf r.din0 r.din1 := rfl
@[simp] theorem opConvrh_word1 : (opConvrh r).word1 = r.word1 := rfl
@[simp] theorem opConvrh_flags : (opConvrh r).flags = r.flags := rfl
@[simp] theorem opConvrh_tc : (opConvrh r).tc = r.tc := rfl
@[simp] theorem opConvrh_tf : (opConvrh r).tf = r.tf := rfl
@[simp] theorem opConvrh_rh : (opConvrh r).rh = enc16 (humidity (wordOf r.din0 r.din1)) := rfl

@[simp] theorem opStatfrm_din0 : (opStatfrm r).din0 = r.din0 := rfl
@[simp] theorem opStatfrm_din1 : (opStatfrm r).din1 = r.din1 := rfl
@[simp] theorem opStatfrm_din2 : (opStatfrm r).din2 = r.din2 := rfl
@[simp] theorem opStatfrm_din3 : (opStatfrm r).din3 = r.din3 := rfl
@[simp] theorem opStatfrm_din4 : (opStatfrm r).din4 = r.din4 := rfl
@[simp] theorem opStatfrm_din5 : (opStatfrm r).din5 = r.din5 := rfl
@[simp] theorem opStatfrm_stat : (opStatfrm r).stat = legalStat (putOk0 r.stat (verify r.din0 r.din1 r.din2)) := rfl
@[simp] theorem opStatfrm_crc0 : (opStatfrm r).crc0 = crc8 r.din0 r.din1 := rfl
@[simp] theorem opStatfrm_crc1 : (opStatfrm r).crc1 = r.crc1 := rfl
@[simp] theorem opStatfrm_word0 : (opStatfrm r).word0 = wordOf r.din0 r.din1 := rfl
@[simp] theorem opStatfrm_word1 : (opStatfrm r).word1 = r.word1 := rfl
@[simp] theorem opStatfrm_flags : (opStatfrm r).flags = statusDecode (wordOf r.din0 r.din1) := rfl
@[simp] theorem opStatfrm_tc : (opStatfrm r).tc = r.tc := rfl
@[simp] theorem opStatfrm_tf : (opStatfrm r).tf = r.tf := rfl
@[simp] theorem opStatfrm_rh : (opStatfrm r).rh = r.rh := rfl

@[simp] theorem opMeasfrm_din0 : (opMeasfrm r).din0 = r.din0 := rfl
@[simp] theorem opMeasfrm_din1 : (opMeasfrm r).din1 = r.din1 := rfl
@[simp] theorem opMeasfrm_din2 : (opMeasfrm r).din2 = r.din2 := rfl
@[simp] theorem opMeasfrm_din3 : (opMeasfrm r).din3 = r.din3 := rfl
@[simp] theorem opMeasfrm_din4 : (opMeasfrm r).din4 = r.din4 := rfl
@[simp] theorem opMeasfrm_din5 : (opMeasfrm r).din5 = r.din5 := rfl
@[simp] theorem opMeasfrm_stat :
    (opMeasfrm r).stat = legalStat (putOk1 (putOk0 r.stat (verify r.din0 r.din1 r.din2)) (verify r.din3 r.din4 r.din5)) := rfl
@[simp] theorem opMeasfrm_crc0 : (opMeasfrm r).crc0 = crc8 r.din0 r.din1 := rfl
@[simp] theorem opMeasfrm_crc1 : (opMeasfrm r).crc1 = crc8 r.din3 r.din4 := rfl
@[simp] theorem opMeasfrm_word0 : (opMeasfrm r).word0 = wordOf r.din0 r.din1 := rfl
@[simp] theorem opMeasfrm_word1 : (opMeasfrm r).word1 = wordOf r.din3 r.din4 := rfl
@[simp] theorem opMeasfrm_flags : (opMeasfrm r).flags = r.flags := rfl
@[simp] theorem opMeasfrm_tc : (opMeasfrm r).tc = enc16 (celsius (wordOf r.din0 r.din1)) := rfl
@[simp] theorem opMeasfrm_tf : (opMeasfrm r).tf = enc16 (fahrenheit (wordOf r.din0 r.din1)) := rfl
@[simp] theorem opMeasfrm_rh : (opMeasfrm r).rh = enc16 (humidity (wordOf r.din3 r.din4)) := rfl

@[simp] theorem takeReset_regs : (takeReset s).regs = Regs.reset := rfl
@[simp] theorem takeReset_pending : (takeReset s).pending = s.pending := rfl
@[simp] theorem takeReset_returned : (takeReset s).returned = s.returned := rfl
@[simp] theorem issue_regs : (issue s a).regs = s.regs := rfl
@[simp] theorem issue_pending : (issue s a).pending = a :: s.pending := rfl
@[simp] theorem issue_returned : (issue s a).returned = s.returned := rfl

end Sys2Proof.Machine
end

