-- ==== Sys2Proof/Laws/Ops.lean ====
section
/-! SUPPORT. What the shared operations can do, once for each: the bit write and its masks, the error condition, the end of
a transaction, and taking the host's next action. -/

namespace Sys2Proof.Machine

/-! ### The bit write -/

theorem getLsbD_putBit (v : Byte) (i j : Nat) (b : Bool) (hi : i < 8) :
    (putBit v i b).getLsbD j = if j = i then b else v.getLsbD j := by
  by_cases hj : j < 8
  · simp only [putBit, BitVec.getLsbD_or, BitVec.getLsbD_and, BitVec.getLsbD_not, BitVec.getLsbD_shiftLeft,
      BitVec.getLsbD_setWidth, BitVec.getLsbD_ofBool, hj]
    by_cases hji : j = i
    · subst hji; cases b <;> simp [hj]
    · by_cases hlt : j < i
      · simp [hji, hlt]
      · have : j - i ≠ 0 := by omega
        simp [hji, hlt, this]
  · have hv : v.getLsbD j = false := BitVec.getLsbD_of_ge _ _ (by omega)
    have hji : j ≠ i := by omega
    rw [BitVec.getLsbD_of_ge _ _ (by omega)]
    simp [hv, hji]

theorem putBit_ill_false : ∀ v : Byte, putBit v 7 false = v &&& 0x7F#8 := by decide
theorem putBit_ill_true : ∀ v : Byte, putBit v 7 true = v ||| 0x80#8 := by decide
theorem putBit_ok0 : ∀ (b : Bool) (v : Byte), putBit v 0 b = (v &&& 0xFE#8) ||| (if b then 0x01#8 else 0x00#8) := by decide
theorem putBit_ok1 : ∀ (b : Bool) (v : Byte), putBit v 1 b = (v &&& 0xFD#8) ||| (if b then 0x02#8 else 0x00#8) := by decide

/-- The reserved bits of STAT survive every write of a named bit (10_state.md R23). -/
theorem putBit_keeps_reserved (b : Bool) (v : Byte) :
    putBit v 0 b &&& 0x7C#8 = v &&& 0x7C#8 ∧ putBit v 1 b &&& 0x7C#8 = v &&& 0x7C#8 ∧
    putBit v 7 b &&& 0x7C#8 = v &&& 0x7C#8 := by
  revert b v; decide

/-! ### The fields of STAT -/

/-- Every STAT a legal operation leaves has ILL = 0 and the OK bits it was given. -/
theorem legalStat_bits (v : Byte) :
    (legalStat v).getLsbD 7 = false ∧ (legalStat v).getLsbD 0 = v.getLsbD 0 ∧ (legalStat v).getLsbD 1 = v.getLsbD 1 :=
  ⟨getLsbD_putBit v _ _ _ (by omega), getLsbD_putBit v _ _ _ (by omega), getLsbD_putBit v _ _ _ (by omega)⟩

theorem putOk0_bits (v : Byte) (b : Bool) :
    (putOk0 v b).getLsbD 0 = b ∧ (putOk0 v b).getLsbD 1 = v.getLsbD 1 ∧ (putOk0 v b).getLsbD 7 = v.getLsbD 7 :=
  ⟨getLsbD_putBit v _ _ _ (by omega), getLsbD_putBit v _ _ _ (by omega), getLsbD_putBit v _ _ _ (by omega)⟩

theorem putOk1_bits (v : Byte) (b : Bool) :
    (putOk1 v b).getLsbD 0 = v.getLsbD 0 ∧ (putOk1 v b).getLsbD 1 = b ∧ (putOk1 v b).getLsbD 7 = v.getLsbD 7 :=
  ⟨getLsbD_putBit v _ _ _ (by omega), getLsbD_putBit v _ _ _ (by omega), getLsbD_putBit v _ _ _ (by omega)⟩

theorem putIll_bits (v : Byte) (b : Bool) :
    (putIll v b).getLsbD 0 = v.getLsbD 0 ∧ (putIll v b).getLsbD 1 = v.getLsbD 1 ∧ (putIll v b).getLsbD 7 = b :=
  ⟨getLsbD_putBit v _ _ _ (by omega), getLsbD_putBit v _ _ _ (by omega), getLsbD_putBit v _ _ _ (by omega)⟩

/-- The reserved bits of STAT survive every operation's STAT (10_state.md R23). -/
theorem stat_keeps_reserved (b : Bool) (v : Byte) :
    putOk0 v b &&& 0x7C#8 = v &&& 0x7C#8 ∧ putOk1 v b &&& 0x7C#8 = v &&& 0x7C#8 ∧
    putIll v b &&& 0x7C#8 = v &&& 0x7C#8 :=
  putBit_keeps_reserved b v

/-- What leaves STAT alone leaves its three fields alone. -/
theorem statFields_congr {r r' : Regs} (h : r'.stat = r.stat) : r'.ok0 = r.ok0 ∧ r'.ok1 = r.ok1 ∧ r'.ill = r.ill := by
  simp only [Regs.ok0, Regs.ok1, Regs.ill, h, and_self]

/-! ### The error condition and the end of a transaction -/

theorem raiseIllegal_eq (r : Regs) : raiseIllegal r = { r with stat := r.stat ||| 0x80#8 } := by
  simp [raiseIllegal, putIll, putBit_ill_true]

theorem legalStat_eq (v : Byte) : legalStat v = v &&& 0x7F#8 := putBit_ill_false v

theorem finish_next {s t : State} {r : Regs} (h : finish s r = .next t) : t = { s with regs := r } := by
  simpa [finish] using h.symm

theorem answer_next {s t : State} {b : Byte} (h : answer s b = .next t) :
    t = { s with returned := s.returned ++ [b] } := by
  simpa [answer] using h.symm

/-! ### The host's next action -/

theorem nextAction_nil {s : State} (h : s.pending = []) : nextAction s = none := by
  simp [nextAction, h]

theorem nextAction_cons {s : State} {a : HostAction} {rest : List HostAction} (h : s.pending = a :: rest) :
    nextAction s = some (a, { s with pending := rest }) := by
  simp [nextAction, h]

@[simp] theorem nextAction_issue (s : State) (a : HostAction) : nextAction (issue s a) = some (a, s) := rfl

/-! ### Bytes and words -/

theorem getLsbD_wordOf (hi lo : Byte) (i : Nat) :
    (wordOf hi lo).getLsbD i = if i < 8 then lo.getLsbD i else hi.getLsbD (i - 8) :=
  BitVec.getLsbD_append

@[simp] theorem hiByte_wordOf (hi lo : Byte) : hiByte (wordOf hi lo) = hi := by
  apply BitVec.eq_of_getLsbD_eq
  intro i h
  rw [hiByte, BitVec.getLsbD_extractLsb', getLsbD_wordOf]
  simp [h]

@[simp] theorem loByte_wordOf (hi lo : Byte) : loByte (wordOf hi lo) = lo := by
  apply BitVec.eq_of_getLsbD_eq
  intro i h
  rw [loByte, BitVec.getLsbD_extractLsb', getLsbD_wordOf]
  simp [h]

theorem wordOf_toNat (hi lo : Byte) : (wordOf hi lo).toNat = 256 * hi.toNat + lo.toNat := by
  have := lo.isLt
  rw [wordOf, BitVec.toNat_append, ← Nat.shiftLeft_add_eq_or_of_lt this, Nat.shiftLeft_eq]
  omega

end Sys2Proof.Machine
end

