-- ==== Sys2Proof/Laws/Exec.lean ====
section
/-! SUPPORT. What an instruction and a step can do, said once: every later proof cites these and unfolds neither `exec` nor
`step`. -/

namespace Sys2Proof.Machine

/-! ### What an instruction can do -/

/-- The registers after an instruction. -/
def regsAfter : Instr → Regs → Regs
  | .crc8, r => opCrc8 r
  | .verify, r => opVerify r
  | .decode, r => opDecode r
  | .convc, r => opConvc r
  | .convf, r => opConvf r
  | .convrh, r => opConvrh r
  | .statfrm, r => opStatfrm r
  | .measfrm, r => opMeasfrm r
  | .opIllegal _, r => raiseIllegal r
  | .rd _, r => r
  | .wr a d, r => portWrite r a d

/-- The bytes an instruction returns to the host. -/
def bytesReturned : Instr → Regs → List Byte
  | .rd a, r => [portRead r a]
  | .crc8, _ | .verify, _ | .decode, _ | .convc, _ | .convf, _ | .convrh, _ | .statfrm, _ | .measfrm, _
  | .opIllegal _, _ | .wr _ _, _ => []

/-- Everything an instruction can do: it always completes, it changes the registers as `regsAfter` says and returns the
bytes `bytesReturned` says, and the host's plan is untouched. -/
theorem exec_eq (i : Instr) (s : State) :
    exec i s = .next { regs := regsAfter i s.regs, pending := s.pending, returned := s.returned ++ bytesReturned i s.regs } := by
  cases i <;> simp [exec, regsAfter, bytesReturned, execCrc8, execVerify, execDecode, execConvc, execConvf, execConvrh,
    execStatfrm, execMeasfrm, execOpIllegal, execRd, execWr, finish, answer]

theorem exec_next {i : Instr} {s t : State} (h : exec i s = .next t) :
    t.regs = regsAfter i s.regs ∧ t.pending = s.pending ∧ t.returned = s.returned ++ bytesReturned i s.regs := by
  rw [exec_eq] at h
  cases h
  exact ⟨rfl, rfl, rfl⟩

/-! ### What a step can do -/

theorem step_transaction {s : State} {w : TxnWord} {rest : List HostAction} {i : Instr}
    (hp : s.pending = .transaction w :: rest) (hd : decode w = .ok i) :
    step s = exec i { s with pending := rest } := by
  simp [step, nextAction_cons hp, hd]

theorem step_refused {s : State} {w : TxnWord} {rest : List HostAction} {e : NotATransaction}
    (hp : s.pending = .transaction w :: rest) (hd : decode w = .error e) :
    step s = .refused (.notATransaction e) := by
  simp [step, nextAction_cons hp, hd]

theorem step_hostReset {s : State} {rest : List HostAction} (hp : s.pending = .reset :: rest) :
    step s = .next { s with regs := Regs.reset, pending := rest } := by
  simp [step, nextAction_cons hp, takeReset]

theorem step_idle {s : State} (hp : s.pending = []) : step s = .fault .noTransaction := by
  simp [step, nextAction_nil hp]

/-- Everything a step that answers a next state can have done. -/
theorem step_next {s t : State} (h : step s = .next t) :
    (∃ rest, s.pending = .reset :: rest ∧ t = { s with regs := Regs.reset, pending := rest }) ∨
    (∃ w rest i, s.pending = .transaction w :: rest ∧ decode w = .ok i ∧
      t = { regs := regsAfter i s.regs, pending := rest, returned := s.returned ++ bytesReturned i s.regs }) := by
  rcases hp : s.pending with _ | ⟨_ | _, rest⟩
  · rw [step_idle hp] at h; cases h
  · rename_i w
    rcases hd : decode w with e | i
    · rw [step_refused hp hd] at h; cases h
    · rw [step_transaction hp hd, exec_eq] at h
      cases h
      exact .inr ⟨w, rest, i, rfl, hd, rfl⟩
  · rw [step_hostReset hp] at h
    cases h
    exact .inl ⟨rest, rfl, rfl⟩

/-- The word placed by `withFetchWord` is the next step's transaction, and nothing else has changed. -/
theorem step_withFetchWord {s : State} {nbits w : Nat} {i : Instr} (h : decodeTableWord nbits w = some i) :
    step (s.withFetchWord nbits w) = exec i s := by
  unfold decodeTableWord at h
  split at h
  · rename_i hd
    cases h
    exact step_transaction (s := s.withFetchWord nbits w) rfl hd
  · cases h

/-! ### Runs -/

theorem run_zero (s : State) : core.run 0 s = .next s := rfl

theorem run_succ {s t : State} (n : Nat) (h : step s = .next t) : core.run (n + 1) s = core.run n t := by
  have h' : core.step s = .next t := h
  exact (Host.Core.run.eq_2 core s n).trans (by rw [h'])

theorem run_succ_fault {s : State} {r : Fault} (n : Nat) (h : step s = .fault r) : core.run (n + 1) s = .fault r := by
  have h' : core.step s = .fault r := h
  exact (Host.Core.run.eq_2 core s n).trans (by rw [h'])

theorem run_succ_refused {s : State} {r : Refusal} (n : Nat) (h : step s = .refused r) :
    core.run (n + 1) s = .refused r := by
  have h' : core.step s = .refused r := h
  exact (Host.Core.run.eq_2 core s n).trans (by rw [h'])

/-- A step that answers a next state takes exactly one action from the host's plan. -/
theorem step_pending {s t : State} (h : step s = .next t) : ∃ a, s.pending = a :: t.pending := by
  obtain ⟨rest, hp, rfl⟩ | ⟨w, rest, i, hp, -, rfl⟩ := step_next h
  · exact ⟨_, hp⟩
  · exact ⟨_, hp⟩

end Sys2Proof.Machine
end

