-- ==== Sys2Proof/Laws/Functions.lean ====
section
/-! SUPPORT. Small laws of the pure functions: the CRC register is linear, a converted value survives its register, the
address map and the register names agree, and the bytes of a 16-bit register. -/

namespace Sys2Proof.Machine

/-- One shift of the CRC register is linear over XOR (40_checksum.md R80). -/
theorem crcShift_xor (x y : Byte) : crcShift (x ^^^ y) = crcShift x ^^^ crcShift y := by
  unfold crcShift
  rw [BitVec.getLsbD_xor, BitVec.shiftLeft_xor_distrib]
  cases x.getLsbD 7 <;> cases y.getLsbD 7 <;> simp
  · ac_rfl
  · ac_rfl
  · rw [show x <<< 1 ^^^ Config.crcPolynomial ^^^ (y <<< 1 ^^^ Config.crcPolynomial) =
      x <<< 1 ^^^ y <<< 1 ^^^ (Config.crcPolynomial ^^^ Config.crcPolynomial) by ac_rfl]
    simp

/-- So is any number of shifts. -/
theorem crcShifts_xor (n : Nat) : ∀ x y : Byte, crcShifts n (x ^^^ y) = crcShifts n x ^^^ crcShifts n y := by
  induction n with
  | zero => intros; rfl
  | succ n ih => intro x y; simp only [crcShifts, crcShift_xor, ih]

/-- A value that fits 16 bits is read back from its register as itself (00_scope.md R7). -/
theorem enc16_toInt {v : Int} (h1 : -32768 ≤ v) (h2 : v < 32768) : (enc16 v).toInt = v := by
  unfold enc16
  rw [BitVec.toInt_ofInt, Int.bmod_eq_of_le] <;> omega

/-- A register name's address is where the port finds that register, and every address but a reserved one has a name
(10_state.md R20). -/
theorem locate_registerAddress (l : Location) : ∀ a : Byte, registerAddress l = some a ↔ (locate a = l ∧ l ≠ .reserved) := by
  cases l <;> decide

/-- The two bytes of a 16-bit register are the whole of it (20_memory.md R42). -/
theorem wordOf_hiByte_loByte (v : Word16) : wordOf (hiByte v) (loByte v) = v := by
  apply BitVec.eq_of_getLsbD_eq
  intro i hi
  rw [getLsbD_wordOf, hiByte, loByte, BitVec.getLsbD_extractLsb', BitVec.getLsbD_extractLsb']
  by_cases h : i < 8
  · simp [h]
  · have h2 : i - 8 < 8 := by omega
    have h3 : 8 + (i - 8) = i := by omega
    simp [h, h2, h3]

end Sys2Proof.Machine
end

