-- ==== Sys2Proof/Laws/PerInstr.lean ====
section
/-! SUPPORT. Statements made for each instruction: the fields of its transaction word. -/

namespace Sys2Proof

/-- The register address of the instruction's transaction. -/
def Instr.txnAddr : Instr → Byte
  | .crc8 | .verify | .decode | .convc | .convf | .convrh | .statfrm | .measfrm | .opIllegal _ => opAddress
  | .rd a => a
  | .wr a _ => a

/-- The data byte of the instruction's transaction. -/
def Instr.txnData : Instr → Byte
  | .crc8 => 0x01#8
  | .verify => 0x02#8
  | .decode => 0x03#8
  | .convc => 0x04#8
  | .convf => 0x05#8
  | .convrh => 0x06#8
  | .statfrm => 0x07#8
  | .measfrm => 0x08#8
  | .opIllegal c => c
  | .rd _ => 0x00#8
  | .wr _ d => d

/-- Whether the instruction's transaction is a read. -/
def Instr.txnRead : Instr → Bool
  | .rd _ => true
  | .crc8 | .verify | .decode | .convc | .convf | .convrh | .statfrm | .measfrm | .opIllegal _ | .wr _ _ => false

/-! ### The fields of the two word forms -/

/-- The bits of three bytes laid side by side. -/
theorem getLsbD_threeBytes (x y z : Byte) (i : Nat) :
    ((x ++ y ++ z : BitVec (8 + 8 + 8)).getLsbD i) =
      if i < 8 then z.getLsbD i else if i - 8 < 8 then y.getLsbD (i - 8) else x.getLsbD (i - 8 - 8) := by
  simp only [BitVec.getLsbD_append]

theorem getLsbD_writeWord (a d : Byte) (i : Nat) :
    (writeWord a d).getLsbD i =
      if i < 8 then d.getLsbD i else if i - 8 < 8 then a.getLsbD (i - 8) else false := by
  have h := getLsbD_threeBytes 0x00#8 a d i
  simp only [BitVec.getLsbD_zero] at h
  exact h

theorem getLsbD_readWord (a : Byte) (i : Nat) :
    (readWord a).getLsbD i =
      if i < 8 then false else if i - 8 < 8 then a.getLsbD (i - 8) else decide (i = 16) := by
  have h := getLsbD_threeBytes 0x01#8 a 0x00#8 i
  rw [readWord, h]
  split
  · simp
  · split
    · rfl
    · rw [BitVec.getLsbD_one]; simp; omega

theorem writeWord_z (a d : Byte) : TxnWord.z (writeWord a d) = 0 := by
  apply BitVec.eq_of_getLsbD_eq
  intro i h
  have h1 : ¬ 17 + i < 8 := by omega
  have h2 : ¬ 17 + i - 8 < 8 := by omega
  rw [TxnWord.z, BitVec.getLsbD_extractLsb', getLsbD_writeWord, if_neg h1, if_neg h2]
  simp

theorem writeWord_isRead (a d : Byte) : TxnWord.isRead (writeWord a d) = false := by
  rw [TxnWord.isRead, getLsbD_writeWord]; rfl

theorem writeWord_addr (a d : Byte) : TxnWord.addr (writeWord a d) = a := by
  apply BitVec.eq_of_getLsbD_eq
  intro i h
  rw [TxnWord.addr, BitVec.getLsbD_extractLsb', getLsbD_writeWord]
  simp [h]

theorem writeWord_data (a d : Byte) : TxnWord.data (writeWord a d) = d := by
  apply BitVec.eq_of_getLsbD_eq
  intro i h
  rw [TxnWord.data, BitVec.getLsbD_extractLsb', getLsbD_writeWord]
  simp [h]

theorem readWord_z (a : Byte) : TxnWord.z (readWord a) = 0 := by
  apply BitVec.eq_of_getLsbD_eq
  intro i h
  have h1 : ¬ 17 + i < 8 := by omega
  have h2 : ¬ 17 + i - 8 < 8 := by omega
  have h3 : 17 + i ≠ 16 := by omega
  rw [TxnWord.z, BitVec.getLsbD_extractLsb', getLsbD_readWord, if_neg h1, if_neg h2]
  simp [h3]

theorem readWord_isRead (a : Byte) : TxnWord.isRead (readWord a) = true := by
  rw [TxnWord.isRead, getLsbD_readWord]; rfl

theorem readWord_addr (a : Byte) : TxnWord.addr (readWord a) = a := by
  apply BitVec.eq_of_getLsbD_eq
  intro i h
  rw [TxnWord.addr, BitVec.getLsbD_extractLsb', getLsbD_readWord]
  simp [h]

theorem readWord_data (a : Byte) : TxnWord.data (readWord a) = 0 := by
  apply BitVec.eq_of_getLsbD_eq
  intro i h
  rw [TxnWord.data, BitVec.getLsbD_extractLsb', getLsbD_readWord]
  simp [h]

/-! ### The family -/

/-- The word of an instruction has the four fields of its transaction (30_encoding.md R61, R71). -/
def Laws.Encoding.Statement (i : Instr) : Prop :=
  TxnWord.z (encode i) = 0 ∧ TxnWord.isRead (encode i) = i.txnRead ∧
  TxnWord.addr (encode i) = i.txnAddr ∧ TxnWord.data (encode i) = i.txnData

theorem Laws.Encoding.ofWrite (a d : Byte) :
    TxnWord.z (writeWord a d) = 0 ∧ TxnWord.isRead (writeWord a d) = false ∧
    TxnWord.addr (writeWord a d) = a ∧ TxnWord.data (writeWord a d) = d :=
  ⟨writeWord_z a d, writeWord_isRead a d, writeWord_addr a d, writeWord_data a d⟩

theorem Laws.Encoding.crc8 : Laws.Encoding.Statement .crc8 := Laws.Encoding.ofWrite _ _
theorem Laws.Encoding.verify : Laws.Encoding.Statement .verify := Laws.Encoding.ofWrite _ _
theorem Laws.Encoding.decode : Laws.Encoding.Statement .decode := Laws.Encoding.ofWrite _ _
theorem Laws.Encoding.convc : Laws.Encoding.Statement .convc := Laws.Encoding.ofWrite _ _
theorem Laws.Encoding.convf : Laws.Encoding.Statement .convf := Laws.Encoding.ofWrite _ _
theorem Laws.Encoding.convrh : Laws.Encoding.Statement .convrh := Laws.Encoding.ofWrite _ _
theorem Laws.Encoding.statfrm : Laws.Encoding.Statement .statfrm := Laws.Encoding.ofWrite _ _
theorem Laws.Encoding.measfrm : Laws.Encoding.Statement .measfrm := Laws.Encoding.ofWrite _ _
theorem Laws.Encoding.opIllegal (code : Byte) : Laws.Encoding.Statement (.opIllegal code) := Laws.Encoding.ofWrite _ _
theorem Laws.Encoding.rd (addr : Byte) : Laws.Encoding.Statement (.rd addr) :=
  ⟨readWord_z addr, readWord_isRead addr, readWord_addr addr, readWord_data addr⟩
theorem Laws.Encoding.wr (addr data : Byte) : Laws.Encoding.Statement (.wr addr data) := Laws.Encoding.ofWrite _ _

end Sys2Proof
end

