-- ==== Sys2Proof/Tests/Slice0.lean ====
section
/-! SUPPORT. The model's own tests. Expected values are those of the spec: 95_test_vectors.md, or the corner cases and
examples of the rule named. After them, for every obligation with hypotheses, a state and operands that meet them. -/

namespace Sys2Proof.Tests

open Sys2Proof Sys2Proof.Machine Sys2Proof.Claims

/-! ### Well-formedness: each check refuses an ill-formed term -/

theorem test_wellFormed_refuses_wr_to_op : (Instr.wr 0x06#8 0x01#8).wellFormed = false := by decide
theorem test_wellFormed_refuses_illegal_of_first_legal : (Instr.opIllegal 0x01#8).wellFormed = false := by decide
theorem test_wellFormed_refuses_illegal_of_last_legal : (Instr.opIllegal 0x08#8).wellFormed = false := by decide
theorem test_wellFormed_accepts_illegal_bounds :
    (Instr.opIllegal 0x00#8).wellFormed = true ∧ (Instr.opIllegal 0x09#8).wellFormed = true ∧
    (Instr.opIllegal 0xFF#8).wellFormed = true := by decide

/-! ### Decoding: words written out from 30_encoding.md R61, R63, R71 -/

theorem test_decode_crc8 : decode 0b0000000_0_00000110_00000001#24 = .ok .crc8 := by decide
theorem test_decode_verify : decode 0b0000000_0_00000110_00000010#24 = .ok .verify := by decide
theorem test_decode_decode : decode 0b0000000_0_00000110_00000011#24 = .ok .decode := by decide
theorem test_decode_convc : decode 0b0000000_0_00000110_00000100#24 = .ok .convc := by decide
theorem test_decode_convf : decode 0b0000000_0_00000110_00000101#24 = .ok .convf := by decide
theorem test_decode_convrh : decode 0b0000000_0_00000110_00000110#24 = .ok .convrh := by decide
theorem test_decode_statfrm : decode 0b0000000_0_00000110_00000111#24 = .ok .statfrm := by decide
theorem test_decode_measfrm : decode 0b0000000_0_00000110_00001000#24 = .ok .measfrm := by decide
theorem test_decode_opIllegal_zero : decode 0b0000000_0_00000110_00000000#24 = .ok (.opIllegal 0x00#8) := by decide
theorem test_decode_opIllegal_nine : decode 0b0000000_0_00000110_00001001#24 = .ok (.opIllegal 0x09#8) := by decide
theorem test_decode_rd : decode 0b0000000_1_00001110_00000000#24 = .ok (.rd 0x0E#8) := by decide
theorem test_decode_wr : decode 0b0000000_0_00000101_11010001#24 = .ok (.wr 0x05#8 0xD1#8) := by decide
/-- 95_test_vectors.md §2.5, last row. -/
theorem test_decode_refuses :
    decode 0x020000#24 = .error .reservedBitsSet ∧ decode 0x010001#24 = .error .readWithData := by decide
theorem test_decodeTableWord : decodeTableWord 24 0x000608 = some .measfrm ∧ decodeTableWord 24 0x020000 = none := by
  decide

/-! ### One step of each instruction -/

/-- The registers at reset with the DIN registers loaded. -/
def loaded (b0 b1 b2 b3 b4 b5 : Byte) : State :=
  { State.reset with regs := { Regs.reset with din0 := b0, din1 := b1, din2 := b2, din3 := b3, din4 := b4, din5 := b5 } }

/-- What the port reads at the addresses `as` after an outcome, if it is a next state. -/
def readsAfter (o : Host.Outcome State Fault Refusal) (as : List Byte) : Option (List Byte) :=
  match o with
  | .next t => some (as.map (portRead t.regs))
  | .fault _ | .refused _ => none

/-- The bytes returned to the host by an outcome, if it is a next state. -/
def returnedBy (o : Host.Outcome State Fault Refusal) : Option (List Byte) :=
  match o with
  | .next t => some t.returned
  | .fault _ | .refused _ => none

/-- 95_test_vectors.md §2.1: the order of the bytes matters. -/
theorem test_crc8 :
    readsAfter (exec .crc8 (loaded 0xBE#8 0xEF#8 0#8 0#8 0#8 0#8)) [0x08#8, 0x07#8] = some [0x92#8, 0x00#8] ∧
    readsAfter (exec .crc8 (loaded 0xEF#8 0xBE#8 0#8 0#8 0#8 0#8)) [0x08#8] = some [0xCE#8] := by decide +kernel

/-- 95_test_vectors.md §2.5: STAT = 0x81 before CRC8 is 0x01 after it. -/
theorem test_crc8_clears_ill_keeps_ok0 :
    readsAfter (exec .crc8 { State.reset with regs := { Regs.reset with stat := 0x81#8 } }) [0x07#8] = some [0x01#8] := by
  decide +kernel

/-- 95_test_vectors.md §2.1, VERIFY vectors. -/
theorem test_verify_match :
    readsAfter (exec .verify (loaded 0xBE#8 0xEF#8 0x92#8 0#8 0#8 0#8)) [0x08#8, 0x07#8] = some [0x92#8, 0x01#8] := by
  decide +kernel
theorem test_verify_mismatch :
    readsAfter (exec .verify (loaded 0xBE#8 0xEF#8 0x93#8 0#8 0#8 0#8)) [0x08#8, 0x07#8] = some [0x92#8, 0x00#8] := by
  decide +kernel

/-- 95_test_vectors.md §2.2: the source's example and the ignored bits. -/
theorem test_decode_source_example :
    readsAfter (exec .decode (loaded 0x80#8 0x13#8 0#8 0#8 0#8 0#8)) [0x0A#8, 0x0B#8, 0x0E#8] =
      some [0x80#8, 0x13#8, 0x47#8] := by decide +kernel
theorem test_decode_single_bits :
    statusDecode 0x53EC#16 = 0x00#8 ∧ statusDecode 0x2000#16 = 0x20#8 ∧ statusDecode 0x0800#16 = 0x10#8 ∧
    statusDecode 0x0400#16 = 0x08#8 ∧ statusDecode 0x0010#16 = 0x04#8 ∧ statusDecode 0x2C00#16 = 0x38#8 := by decide +kernel

/-- 95_test_vectors.md §2.3, the rounding corner cases of each function. -/
theorem test_convc_rounds_to_nearest :
    readsAfter (exec .convc (loaded 0x01#8 0xC7#8 0#8 0#8 0#8 0#8)) [0x10#8, 0x11#8] = some [0xEE#8, 0xE5#8] ∧
    celsius 12652#16 = -1121 := by decide +kernel
theorem test_convf_rounds_to_nearest :
    readsAfter (exec .convf (loaded 0x0E#8 0x57#8 0#8 0#8 0#8 0#8)) [0x12#8, 0x13#8] = some [0xF3#8, 0xC0#8] ∧
    fahrenheit 698#16 = -4564 := by decide +kernel
theorem test_convrh_rounds_to_nearest :
    readsAfter (exec .convrh (loaded 0x23#8 0x4A#8 0#8 0#8 0#8 0#8)) [0x14#8, 0x15#8] = some [0x05#8, 0x63#8] ∧
    humidity 4073#16 = 621 := by decide +kernel
/-- 42_conversion.md R109, operand note: CONVRH takes its count from DIN0 : DIN1, not from DIN3 : DIN4. -/
theorem test_convrh_reads_group0 :
    readsAfter (exec .convrh (loaded 0x82#8 0x47#8 0#8 0xFF#8 0xFF#8 0#8)) [0x0A#8, 0x0B#8, 0x14#8, 0x15#8] =
      some [0x82#8, 0x47#8, 0x13#8, 0xE1#8] := by decide +kernel

/-- 95_test_vectors.md §2.4, STATFRM, a good frame and a bad one. -/
theorem test_statfrm_good :
    readsAfter (exec .statfrm (loaded 0x80#8 0x13#8 0xB2#8 0#8 0#8 0#8)) [0x0A#8, 0x0B#8, 0x08#8, 0x0E#8, 0x07#8] =
      some [0x80#8, 0x13#8, 0xB2#8, 0x47#8, 0x01#8] := by decide +kernel
theorem test_statfrm_mismatch_still_writes :
    readsAfter (exec .statfrm (loaded 0x80#8 0x13#8 0xB3#8 0#8 0#8 0#8)) [0x0A#8, 0x0B#8, 0x08#8, 0x0E#8, 0x07#8] =
      some [0x80#8, 0x13#8, 0xB2#8, 0x47#8, 0x00#8] := by decide +kernel

/-- 95_test_vectors.md §2.4, MEASFRM, a good frame and one with a bad temperature checksum. -/
theorem test_measfrm_good :
    readsAfter (exec .measfrm (loaded 0x66#8 0x57#8 0x67#8 0x82#8 0x47#8 0xD1#8))
      [0x0A#8, 0x0B#8, 0x0C#8, 0x0D#8, 0x08#8, 0x09#8, 0x10#8, 0x11#8, 0x12#8, 0x13#8, 0x14#8, 0x15#8, 0x07#8, 0x0E#8] =
      some [0x66#8, 0x57#8, 0x82#8, 0x47#8, 0x67#8, 0xD1#8, 0x09#8, 0xC0#8, 0x1E#8, 0x0D#8, 0x13#8, 0xE1#8, 0x03#8,
        0x00#8] := by decide +kernel
theorem test_measfrm_bad_temperature_checksum :
    readsAfter (exec .measfrm (loaded 0x66#8 0x57#8 0x00#8 0x82#8 0x47#8 0xD1#8)) [0x10#8, 0x11#8, 0x07#8] =
      some [0x09#8, 0xC0#8, 0x02#8] := by decide +kernel

/-- 95_test_vectors.md §3, Program 2: an illegal opcode sets ILL and keeps OK0. -/
theorem test_opIllegal_sets_ill :
    readsAfter (exec (.opIllegal 0xFF#8) { State.reset with regs := { Regs.reset with stat := 0x01#8, crc0 := 0x92#8 } })
      [0x07#8, 0x08#8] = some [0x81#8, 0x92#8] := by decide +kernel

/-- 95_test_vectors.md §2.5: reads of a 16-bit register's two bytes, and of OP and the reserved addresses. -/
theorem test_rd_high_byte_first :
    returnedBy (exec (.rd 0x10#8) { State.reset with regs := { Regs.reset with tc := 0xEE6C#16 } }) = some [0xEE#8] ∧
    returnedBy (exec (.rd 0x11#8) { State.reset with regs := { Regs.reset with tc := 0xEE6C#16 } }) = some [0x6C#8] := by
  decide +kernel
theorem test_rd_op_and_reserved :
    returnedBy (exec (.rd 0x06#8) (loaded 1#8 2#8 3#8 4#8 5#8 6#8)) = some [0x00#8] ∧
    returnedBy (exec (.rd 0x0F#8) (loaded 1#8 2#8 3#8 4#8 5#8 6#8)) = some [0x00#8] ∧
    returnedBy (exec (.rd 0x20#8) (loaded 1#8 2#8 3#8 4#8 5#8 6#8)) = some [0x00#8] := by decide +kernel

/-- 20_memory.md R44: the last DIN register is set, and the read-only TC_HI ignores a write (95_test_vectors.md §2.5). -/
theorem test_wr_din5 :
    readsAfter (exec (.wr 0x05#8 0xD1#8) (loaded 1#8 2#8 3#8 4#8 5#8 6#8)) [0x00#8, 0x04#8, 0x05#8] =
      some [0x01#8, 0x05#8, 0xD1#8] := by decide +kernel
theorem test_wr_read_only_ignored :
    readsAfter (exec (.wr 0x10#8 0x55#8) { State.reset with regs := { Regs.reset with tc := 0xEE6C#16 } })
      [0x10#8, 0x07#8] = some [0xEE#8, 0x00#8] := by decide +kernel

/-- The trace of 95_test_vectors.md §2.1 for the first byte of (0xBE, 0xEF). -/
theorem test_crc_trace :
    (List.range 9).map (fun n => crcShifts n 0x41#8) =
      [0x41#8, 0x82#8, 0x35#8, 0x6A#8, 0xD4#8, 0x99#8, 0x03#8, 0x06#8, 0x0C#8] := by decide +kernel

/-- 30_encoding.md R64: the first step after reset runs the word placed there. -/
theorem test_step_runs_fetched_word : readsAfter (step (State.reset.withFetchWord 24 0x000608)) [0x10#8, 0x11#8] =
    some [0xEE#8, 0x6C#8] := by decide +kernel

/-! ### Every obligation with hypotheses has a case that meets them -/

theorem witness_DecodeOfEncodeIsIdentity :
    (Instr.wr 0x05#8 0xFF#8).wellFormed = true ∧ (Instr.wr 0x07#8 0x00#8).wellFormed = true ∧
    (Instr.opIllegal 0x09#8).wellFormed = true := by decide

theorem witness_EncodeOfDecodeIsIdentity : decode 0x01FF00#24 = .ok (.rd 0xFF#8) := by decide

theorem witness_DecoderRefusesExactlyNonTransactions :
    ∃ (w : TxnWord) (s : State) (rest : List HostAction), s.pending = .transaction w :: rest ∧
      (w.extractLsb 23 17 ≠ 0 ∨ (w.getLsbD 16 = true ∧ w.extractLsb 7 0 ≠ 0)) :=
  ⟨0x010001#24, issue State.reset (.transaction 0x010001#24), [], rfl, by decide⟩

theorem witness_StepRunsTheDecodedTransaction :
    (issue State.reset (.transaction 0x000601#24)).pending = [.transaction 0x000601#24] ∧
    decode 0x000601#24 = .ok .crc8 := by decide

theorem witness_StepStopsOnlyWithoutTransaction :
    (∃ (s : State) (w : TxnWord) (rest : List HostAction) (why : NotATransaction),
      s.pending = .transaction w :: rest ∧ decode w = .error why) ∧
    State.reset.pending = [] ∧
    ((issue State.reset .reset).safe = true ∧ (issue State.reset .reset).pending ≠ []) :=
  ⟨⟨issue State.reset (.transaction 0x020000#24), _, [], .reservedBitsSet, rfl, by decide⟩, rfl, by decide⟩

theorem witness_ResetClearsEveryRegister :
    (issue (loaded 1#8 2#8 3#8 4#8 5#8 6#8) .reset).pending = [.reset] ∧
    ∃ t, exec (.wr 0x00#8 0x00#8) (loaded 1#8 2#8 3#8 4#8 5#8 6#8) = .next t ∧
      (loaded 1#8 2#8 3#8 4#8 5#8 6#8).regs.din0 ≠ 0x00#8 ∧ (loaded 1#8 2#8 3#8 4#8 5#8 6#8).regs.din1 ≠ 0x00#8 :=
  ⟨rfl, _, exec_eq _ _, by decide, by decide⟩

theorem witness_TransactionIsThePortAccessItSpells :
    decode 0x011000#24 = .ok (.rd 0x10#8) ∧ decode 0x0005D1#24 = .ok (.wr 0x05#8 0xD1#8) ∧
    decode 0x0006FF#24 = .ok (.opIllegal 0xFF#8) := by decide

theorem witness_PortRespondsAsTheAccessTable : 7 ≤ (0x07#8 : Byte).toNat ∧ 7 ≤ (0xFF#8 : Byte).toNat ∧
    (Instr.opIllegal 0x00#8).wellFormed = true := by decide

theorem witness_PortReadAfterWrite :
    (Instr.wr 0x00#8 1#8).wellFormed = true ∧ (Instr.wr 0x05#8 1#8).wellFormed = true ∧
    (Instr.wr 0x07#8 1#8).wellFormed = true ∧ (Instr.wr 0xFF#8 1#8).wellFormed = true := by decide

theorem witness_NoOpWriteChangesDin :
    Instr.measfrm.isOpWrite = true ∧ ∃ t, exec .measfrm (loaded 1#8 2#8 3#8 4#8 5#8 6#8) = .next t :=
  ⟨rfl, _, exec_eq _ _⟩

theorem witness_DinWritesCommute :
    ∃ (a b x y : Byte) (s s₁ s₂ t₁ t₂ : State), a ≠ b ∧ a.toNat ≤ 5 ∧ b.toNat ≤ 5 ∧
      exec (.wr a x) s = .next s₁ ∧ exec (.wr b y) s₁ = .next t₁ ∧
      exec (.wr b y) s = .next s₂ ∧ exec (.wr a x) s₂ = .next t₂ :=
  ⟨0x00#8, 0x05#8, 1#8, 2#8, State.reset, _, _, _, _, by decide, by decide, by decide, exec_eq _ _, exec_eq _ _,
    exec_eq _ _, exec_eq _ _⟩

theorem witness_SideEffectsAreThoseListed :
    (∃ t, exec (.rd 0x07#8) State.reset = .next t) ∧
    (∃ t, exec (.wr 0x05#8 1#8) State.reset = .next t ∧ (0x05#8 : Byte).toNat ≤ 5 ∧ (0x07#8 : Byte) ≠ 0x05#8) ∧
    (∃ t, Instr.crc8.wellFormed = true ∧ Instr.crc8.isOpWrite = true ∧ exec .crc8 State.reset = .next t ∧ (0x09#8 : Byte) ≠ 0x07#8 ∧
      (0x09#8 : Byte) ∉ writesColumn .crc8 ∧ writesOk0 .crc8 = false ∧ writesOk1 .crc8 = false) ∧
    (∃ t, exec (.wr 0x07#8 1#8) State.reset = .next t ∧ 7 ≤ (0x07#8 : Byte).toNat) ∧
    (∃ t u, Instr.verify.isOperation = true ∧ exec .verify State.reset = .next t ∧ exec .verify t = .next u) :=
  ⟨⟨_, exec_eq _ _⟩, ⟨_, exec_eq _ _, by decide, by decide⟩,
    ⟨_, rfl, rfl, exec_eq _ _, by decide, by decide, rfl, rfl⟩, ⟨_, exec_eq _ _, by decide⟩,
    ⟨_, _, rfl, exec_eq _ _, exec_eq _ _⟩⟩

theorem witness_WideRegistersChangeOnlyAtOpWrites :
    (Instr.wr 0x10#8 0x55#8).wellFormed = true ∧ (Instr.wr 0x10#8 0x55#8).isOpWrite = false ∧
    ∃ t, exec (.wr 0x10#8 0x55#8) State.reset = .next t :=
  ⟨by decide, rfl, _, exec_eq _ _⟩

/-- A state whose host is about to make the transactions of a pseudo-instruction and then those of `rest`. -/
def aboutTo (p : Pseudo) (rest : List HostAction) : State :=
  { State.reset with pending := hostActions p.expand ++ rest }

theorem witness_PseudoInstructionsRunAsExpanded :
    (∃ s : State, s.pending = hostActions (Pseudo.ldw0 0x6657#16).expand ++ [.reset]) ∧
    (∃ s : State, s.pending = hostActions (Pseudo.ldw1 0x8247#16).expand ++ [.reset]) ∧
    (∃ s : State, s.pending = hostActions (Pseudo.ldfrm3 0x80#8 0x13#8 0xB2#8).expand ++ [.reset]) ∧
    (∃ s : State, s.pending =
      hostActions (Pseudo.ldfrm6 0x66#8 0x57#8 0x67#8 0x82#8 0x47#8 0xD1#8).expand ++ [.reset]) ∧
    (∃ s : State, s.pending = hostActions (Pseudo.rd16 .tc).expand ++ [.reset]) :=
  ⟨⟨aboutTo _ _, rfl⟩, ⟨aboutTo _ _, rfl⟩, ⟨aboutTo _ _, rfl⟩, ⟨aboutTo _ _, rfl⟩, ⟨aboutTo _ _, rfl⟩⟩

theorem witness_VerifyChecksGroup0 : ∃ s t, exec .verify s = .next t := ⟨State.reset, _, exec_eq _ _⟩
theorem witness_DecodeWritesWordAndFlags : ∃ s t, exec .decode s = .next t := ⟨State.reset, _, exec_eq _ _⟩
theorem witness_ConvcConvertsGroup0ToCelsius : (16849 : Int) < 16850 ∧ (16850 : Int) ≤ 65535 := by decide

theorem witness_OpcodeBounds :
    illegalOpcode 0x00#8 = true ∧ illegalOpcode 0x09#8 = true ∧ illegalOpcode 0xFF#8 = true ∧
    illegalOpcode 0x01#8 = false ∧ illegalOpcode 0x08#8 = false := by decide

theorem witness_IllegalOpcodeSetsIllOnly :
    illegalOpcode 0x09#8 = true ∧
    ∃ s : State, s.regs.ill = true ∧ (∃ t, Instr.crc8.wellFormed = true ∧ exec .crc8 s = .next t) ∧
      (∃ t, (Instr.rd 0x07#8).wellFormed = true ∧ exec (.rd 0x07#8) s = .next t) ∧
      (issue s .reset).pending = .reset :: s.pending :=
  ⟨by decide, { State.reset with regs := { Regs.reset with stat := 0x80#8 } }, by decide, ⟨_, rfl, exec_eq _ _⟩,
    ⟨_, rfl, exec_eq _ _⟩, rfl⟩

theorem witness_OperationsWriteOnlyTheirColumn :
    Instr.convc.isOperation = true ∧ (0x12#8 : Byte) ≠ 0x07#8 ∧ (0x12#8 : Byte) ∉ writesColumn .convc ∧
    writesOk0 .convc = false ∧ writesOk1 .convc = false := by decide

theorem witness_ResultsDependOnlyOnTheReadsColumn :
    ∃ (s s' t t' : State), s.regs ≠ s'.regs ∧
      (∀ a ∈ readsColumn .verify, portRead s.regs a = portRead s'.regs a) ∧
      exec .verify s = .next t ∧ exec .verify s' = .next t' :=
  ⟨loaded 1#8 2#8 3#8 4#8 5#8 6#8, loaded 1#8 2#8 3#8 0#8 0#8 0#8, _, _, by decide, by decide, exec_eq _ _, exec_eq _ _⟩

theorem witness_RegistersAfterDependOnlyOnRegistersBefore :
    ∃ (s s' t t' : State) (act : HostAction) (rest rest' : List HostAction), s ≠ s' ∧
      s.pending = act :: rest ∧ s'.pending = act :: rest' ∧ s.regs = s'.regs ∧ step s = .next t ∧ step s' = .next t' :=
  ⟨{ State.reset with pending := [.reset] }, { State.reset with pending := [.reset, .reset] }, _, _, .reset, [], [.reset],
    by decide, rfl, rfl, rfl, step_hostReset rfl, step_hostReset rfl⟩

theorem witness_ChecksumOutcomeNeverGatesResults :
    ∃ s s' : State, s.regs.din2 ≠ s'.regs.din2 ∧ SameData s.regs s'.regs ∧
      (∃ t, exec .statfrm s = .next t) ∧ (∃ t, exec .statfrm s' = .next t) ∧
      (∃ t, exec .measfrm s = .next t) ∧ (∃ t, exec .measfrm s' = .next t) :=
  ⟨loaded 0x66#8 0x57#8 0x67#8 0x82#8 0x47#8 0xD1#8, loaded 0x66#8 0x57#8 0x00#8 0x82#8 0x47#8 0x00#8, by decide,
    ⟨rfl, rfl, rfl, rfl⟩, ⟨_, exec_eq _ _⟩, ⟨_, exec_eq _ _⟩, ⟨_, exec_eq _ _⟩, ⟨_, exec_eq _ _⟩⟩

theorem witness_StatBitsChangeOnlyAtTheirWriters :
    ∃ s t : State, step s = .next t ∧ t.regs.ill ≠ s.regs.ill :=
  ⟨issue State.reset (.transaction 0x000600#24), _,
    (step_transaction (i := .opIllegal 0x00#8) rfl (by decide)).trans (exec_eq _ _), by decide⟩

theorem witness_Crc8DetectsEverySingleBitFlip : (15 : Nat) < 16 := by decide

theorem witness_StatusDecodeIsTheProjection :
    (0x0000#16 &&& ~~~0xAC13#16 : Word16) = 0 ∧ (0xAC13#16 &&& ~~~0xAC13#16 : Word16) = 0 ∧
    statusDecode 0xAC13#16 = statusDecode 0xAC13#16 ∧ (0x7F#8 : Byte).toNat ≤ 0x7F := by decide +kernel

theorem witness_StatusFlagsAreUncoupled :
    StatusFlag.alertPending.wordBit = 15 ∧ (14 : Nat) ≠ StatusFlag.alertPending.wordBit := by decide

theorem witness_ConversionsRoundToNearest :
    (0 : Int) < 65535 ∧ -(65535 : Int) < 2 * (65535 * 1 - 50000) ∧ 2 * (65535 * 1 - 50000) < (65535 : Int) := by decide

theorem witness_ConversionsHaveTheirIntegerForms : (1#16 : Word16).toNat < 2 := by decide

theorem witness_ConversionRangesAndSteps :
    (0xFFFE#16 : Word16).toNat ≤ (0xFFFF#16 : Word16).toNat ∧
    (0xFFFF#16 : Word16).toNat = (0xFFFE#16 : Word16).toNat + 1 := by decide

/-- A state other than reset's that has the invariant, with every range at its lower end. -/
theorem witness_EveryStepKeepsTheInvariant :
    ∃ s t : State, s.Inv ∧ s.regs.stat ≠ 0x00#8 ∧ step s = .next t :=
  ⟨{ regs := { Regs.reset with stat := 0x83#8, flags := 0x7F#8, tc := 0xEE6C#16, tf := 0xECDC#16, rh := 0x2710#16 },
     pending := [.reset], returned := [] }, _,
    ⟨by decide, by decide, by decide, by decide, by decide⟩, by decide, step_hostReset rfl⟩

theorem witness_ReservedBitsReadZero : ∃ s : State, s.Inv ∧ s.regs.stat = 0x83#8 :=
  ⟨{ State.reset with regs := { Regs.reset with stat := 0x83#8 } },
    ⟨by decide, by decide, by decide, by decide, by decide⟩, rfl⟩

theorem witness_EveryStepKeepsGroupOneCoherent :
    ∃ s t : State, s.regs.GroupOneCoherent ∧ s.regs.word1 = 0x8247#16 ∧ step s = .next t :=
  ⟨{ regs := { Regs.reset with word1 := 0x8247#16, crc1 := 0xD1#8 }, pending := [.reset], returned := [] }, _,
    .inr (by decide +kernel), rfl, step_hostReset rfl⟩

theorem witness_EveryRunOfTransactionsEnds :
    ∃ s : State, s.safe = true ∧ s.pending.length = 3 :=
  ⟨{ State.reset with pending := [.transaction 0x0000BE#24, .transaction 0x000601#24, .transaction 0x010800#24] },
    by decide, rfl⟩

theorem witness_HostActionsTakeEffectInOrder :
    ∃ (s t : State) (first later : List HostAction), first ≠ [] ∧ later ≠ [] ∧ s.pending = first ++ later ∧
      core.run first.length s = .next t :=
  ⟨{ State.reset with pending := [.reset, .reset] }, { State.reset with pending := [.reset] }, [.reset], [.reset],
    by decide, by decide, rfl, run_succ 0 (step_hostReset rfl)⟩

end Sys2Proof.Tests
end

section
/-! PROOFS. What every step keeps, for the statements about the registers (spec/10_state.md). -/

namespace Sys2Proof.Machine

open Sys2Proof.Claims

/-! ### What the decoder answers -/

theorem decodeOpcode_wellFormed : ∀ c : Byte, (decodeOpcode c).wellFormed = true := by decide

/-- No word decodes to WR at OP's address or to OP_ILLEGAL with a legal code (30_encoding.md R64, R65). -/
theorem decode_ok_wellFormed {w : TxnWord} {i : Instr} (h : decode w = .ok i) : i.wellFormed = true := by
  unfold decode at h
  split at h
  · cases h
  split at h
  · split at h <;> cases h
    rfl
  split at h <;> cases h
  · exact decodeOpcode_wellFormed _
  · rename_i hop
    simpa [Instr.wellFormed] using hop

/-! ### The address map -/

theorem locate_eq_op_iff : ∀ a : Byte, locate a = .op ↔ a = opAddress := by decide

theorem locate_of_toNat_le_five : ∀ a : Byte, a.toNat ≤ 5 →
    locate a = .din0 ∨ locate a = .din1 ∨ locate a = .din2 ∨ locate a = .din3 ∨ locate a = .din4 ∨ locate a = .din5 := by
  decide

/-- No two addresses show the same register byte (10_state.md R20). -/
theorem locate_injective {a b : Byte} (ha : locate a ≠ .reserved) (h : locate b = locate a) : b = a := by
  have hname := locate_registerAddress (locate a)
  have hb := (hname b).2 ⟨h, ha⟩
  rw [(hname a).2 ⟨rfl, ha⟩] at hb
  exact (Option.some.inj hb).symm

theorem locate_eq_din_iff {a : Byte} (ha : a.toNat ≤ 5) (b : Byte) : locate b = locate a ↔ b = a := by
  refine ⟨locate_injective fun hr => ?_, congrArg locate⟩
  simpa [hr] using locate_of_toNat_le_five a ha

/-! ### Reads and writes of the port -/

theorem portRead_reset (a : Byte) : portRead Regs.reset a = 0x00#8 := by
  unfold portRead
  cases locate a <;> rfl

/-- A write to a DIN address is read back there and nowhere else (10_state.md R21, 20_memory.md R44). -/
theorem portRead_portWrite_din {a : Byte} (ha : a.toNat ≤ 5) (r : Regs) (v b : Byte) :
    portRead (portWrite r a v) b = if b = a then v else portRead r b := by
  simp only [← locate_eq_din_iff ha b]
  rcases locate_of_toNat_le_five a ha with h | h | h | h | h | h <;>
    simp only [portRead, portWrite, h] <;> cases locate b <;> rfl

theorem locate_of_seven_le : ∀ a : Byte, 7 ≤ a.toNat →
    locate a ∉ [Location.din0, .din1, .din2, .din3, .din4, .din5, .op] := by decide

/-- A write above OP is ignored (20_memory.md R44). -/
theorem portWrite_of_seven_le {a : Byte} (ha : 7 ≤ a.toNat) (r : Regs) (v : Byte) : portWrite r a v = r := by
  have h := locate_of_seven_le a ha
  unfold portWrite
  split <;> simp_all

/-- Everything but the DIN registers is the same in both register files. -/
structure SameResults (r r' : Regs) : Prop where
  stat  : r'.stat = r.stat
  crc0  : r'.crc0 = r.crc0
  crc1  : r'.crc1 = r.crc1
  word0 : r'.word0 = r.word0
  word1 : r'.word1 = r.word1
  flags : r'.flags = r.flags
  tc    : r'.tc = r.tc
  tf    : r'.tf = r.tf
  rh    : r'.rh = r.rh

theorem SameResults.refl (r : Regs) : SameResults r r := ⟨rfl, rfl, rfl, rfl, rfl, rfl, rfl, rfl, rfl⟩

theorem portWrite_sameResults {a : Byte} (ha : a ≠ opAddress) (r : Regs) (v : Byte) :
    SameResults r (portWrite r a v) := by
  have hop : locate a ≠ .op := mt (locate_eq_op_iff a).1 ha
  unfold portWrite
  generalize locate a = l at hop
  cases l
  case op => exact absurd rfl hop
  all_goals exact ⟨rfl, rfl, rfl, rfl, rfl, rfl, rfl, rfl, rfl⟩

/-! ### What an instruction does to the registers -/

/-- A transaction that is no OP write changes at most the DIN registers (10_state.md R20, 20_memory.md R45). -/
theorem regsAfter_sameResults {i : Instr} (hw : i.wellFormed = true) (hop : i.isOpWrite = false) (r : Regs) :
    SameResults r (regsAfter i r) := by
  cases i with
  | rd a => exact .refl r
  | wr a d => exact portWrite_sameResults (by simpa [Instr.wellFormed] using hw) r d
  | _ => cases hop

/-- No OP write writes a DIN register (10_state.md R21). -/
theorem regsAfter_din {i : Instr} (hop : i.isOpWrite = true) (r : Regs) :
    (regsAfter i r).din0 = r.din0 ∧ (regsAfter i r).din1 = r.din1 ∧ (regsAfter i r).din2 = r.din2 ∧
    (regsAfter i r).din3 = r.din3 ∧ (regsAfter i r).din4 = r.din4 ∧ (regsAfter i r).din5 = r.din5 := by
  cases i with
  | rd | wr => cases hop
  | _ => exact ⟨rfl, rfl, rfl, rfl, rfl, rfl⟩

/-- An OP write leaves ILL = 1 exactly for an illegal opcode (10_state.md R23, 60_exceptions.md R144). -/
theorem regsAfter_ill {i : Instr} (hop : i.isOpWrite = true) (r : Regs) :
    (regsAfter i r).ill = !i.isOperation := by
  cases i with
  | rd | wr => cases hop
  | opIllegal => exact (putIll_bits _ _).2.2
  | _ => exact (legalStat_bits _).1

/-- An OP write that does not verify group 0 keeps OK0 (10_state.md R23). -/
theorem regsAfter_ok0 {i : Instr} (hop : i.isOpWrite = true) (hi : writesOk0 i = false) (r : Regs) :
    (regsAfter i r).ok0 = r.ok0 := by
  cases i with
  | rd | wr => cases hop
  | verify | statfrm | measfrm => cases hi
  | opIllegal => exact (putIll_bits _ _).1
  | _ => exact (legalStat_bits _).2.1

/-- An OP write that does not verify group 1 keeps OK1 (10_state.md R23). -/
theorem regsAfter_ok1 {i : Instr} (hop : i.isOpWrite = true) (hi : writesOk1 i = false) (r : Regs) :
    (regsAfter i r).ok1 = r.ok1 := by
  cases i with
  | rd | wr => cases hop
  | measfrm => cases hi
  | verify | statfrm => exact (legalStat_bits _).2.2.trans (putOk0_bits _ _).2.1
  | opIllegal => exact (putIll_bits _ _).2.1
  | _ => exact (legalStat_bits _).2.2

/-- Every OP write keeps the reserved bits of STAT (10_state.md R23). -/
theorem regsAfter_statReserved {i : Instr} (hop : i.isOpWrite = true) (r : Regs) :
    (regsAfter i r).stat &&& 0x7C#8 = r.stat &&& 0x7C#8 := by
  have hok0 := fun b v => (stat_keeps_reserved b v).1
  have hok1 := fun b v => (stat_keeps_reserved b v).2.1
  have hill := fun b v => (stat_keeps_reserved b v).2.2
  cases i with
  | rd | wr => cases hop
  | _ => simp [regsAfter, legalStat, hok0, hok1, hill]

/-- FLAGS changes only to a decoded status word (10_state.md R26). -/
theorem regsAfter_flags {i : Instr} (hop : i.isOpWrite = true) (r : Regs) :
    (regsAfter i r).flags = r.flags ∨ ∃ w, (regsAfter i r).flags = statusDecode w := by
  cases i with
  | rd | wr => cases hop
  | decode | statfrm => exact .inr ⟨_, rfl⟩
  | _ => exact .inl rfl

/-- TC changes only to a converted Celsius value (10_state.md R27). -/
theorem regsAfter_tc {i : Instr} (hop : i.isOpWrite = true) (r : Regs) :
    (regsAfter i r).tc = r.tc ∨ ∃ w, (regsAfter i r).tc = enc16 (celsius w) := by
  cases i with
  | rd | wr => cases hop
  | convc | measfrm => exact .inr ⟨_, rfl⟩
  | _ => exact .inl rfl

/-- TF changes only to a converted Fahrenheit value (10_state.md R27). -/
theorem regsAfter_tf {i : Instr} (hop : i.isOpWrite = true) (r : Regs) :
    (regsAfter i r).tf = r.tf ∨ ∃ w, (regsAfter i r).tf = enc16 (fahrenheit w) := by
  cases i with
  | rd | wr => cases hop
  | convf | measfrm => exact .inr ⟨_, rfl⟩
  | _ => exact .inl rfl

/-- RH changes only to a converted humidity (10_state.md R27). -/
theorem regsAfter_rh {i : Instr} (hop : i.isOpWrite = true) (r : Regs) :
    (regsAfter i r).rh = r.rh ∨ ∃ w, (regsAfter i r).rh = enc16 (humidity w) := by
  cases i with
  | rd | wr => cases hop
  | convrh | measfrm => exact .inr ⟨_, rfl⟩
  | _ => exact .inl rfl

/-- Only MEASFRM writes WORD1 and CRC1 (10_state.md R24, R25). -/
theorem regsAfter_group1 {i : Instr} (hop : i.isOpWrite = true) (hi : writesOk1 i = false) (r : Regs) :
    (regsAfter i r).word1 = r.word1 ∧ (regsAfter i r).crc1 = r.crc1 := by
  cases i with
  | rd | wr => cases hop
  | measfrm => cases hi
  | _ => exact ⟨rfl, rfl⟩

/-! ### The status decoder and the conversions -/

/-- Bit `i` of a status word moved to bit `j` of a byte sets no other bit (41_status_decode.md R91). -/
theorem getLsbD_statusBit (w : Word16) (i j k : Nat) :
    (statusBit w i j).getLsbD k = (decide (k < 8) && decide (k = j) && w.getLsbD i) := by
  simp only [statusBit, BitVec.getLsbD_shiftLeft, BitVec.getLsbD_setWidth, BitVec.getLsbD_and, BitVec.getLsbD_ushiftRight,
    BitVec.getLsbD_one]
  by_cases hk : k = j
  · subst hk
    simp
  · by_cases hlt : k < j
    · simp [hk, hlt]
    · simp [hk, show k - j ≠ 0 by omega]

/-- Bit 7 of a decoded status word is 0 (41_status_decode.md R91). -/
theorem statusDecode_bit7 (w : Word16) : (statusDecode w).getLsbD 7 = false := by
  simp only [statusDecode, BitVec.getLsbD_or, getLsbD_statusBit]
  rfl

theorem celsius_range (w : Word16) : -4500 ≤ celsius w ∧ celsius w ≤ 13000 := by
  have := w.isLt
  simp only [celsius, centiUnits, centiNumerator, roundNearest, Config.celsiusTransfer, Config.fullScale]
  omega

theorem fahrenheit_range (w : Word16) : -4900 ≤ fahrenheit w ∧ fahrenheit w ≤ 26600 := by
  have := w.isLt
  simp only [fahrenheit, centiUnits, centiNumerator, roundNearest, Config.fahrenheitTransfer, Config.fullScale]
  omega

theorem humidity_range (w : Word16) : 0 ≤ humidity w ∧ humidity w ≤ 10000 := by
  have := w.isLt
  simp only [humidity, centiUnits, centiNumerator, roundNearest, Config.humidityTransfer, Config.fullScale]
  omega

/-! A converted value is read back from its register (42_conversion.md R106). -/

theorem enc16_celsius (w : Word16) : (enc16 (celsius w)).toInt = celsius w := by
  have := celsius_range w
  exact enc16_toInt (by omega) (by omega)

theorem enc16_fahrenheit (w : Word16) : (enc16 (fahrenheit w)).toInt = fahrenheit w := by
  have := fahrenheit_range w
  exact enc16_toInt (by omega) (by omega)

theorem enc16_humidity (w : Word16) : (enc16 (humidity w)).toInt = humidity w := by
  have := humidity_range w
  exact enc16_toInt (by omega) (by omega)

/-- Rounding over the odd divisor 65535 meets no tie (42_conversion.md R102). -/
theorem roundNearest_nearest (n : Int) : Nearest (roundNearest n 65535) n := by
  unfold Nearest roundNearest
  omega

/-- The integer nearest to n / 65535 lies, in hundredths, within half a hundredth of n / 6553500. -/
theorem abs_hundredths_lt_of_nearest {v n : Int} (h : Nearest v n) :
    |(v : Rat) / 100 - (n : Rat) / 6553500| < 1 / 200 := by
  obtain ⟨hlo, hhi⟩ := h
  have hlo' : (-65535 : Rat) < 2 * (65535 * v - n) := by exact_mod_cast hlo
  have hhi' : (2 * (65535 * v - n) : Rat) < 65535 := by exact_mod_cast hhi
  rw [abs_lt]
  constructor <;> linarith

/-- A register that holds a transfer function's rounded value reads as that function's exact value, up to half a hundredth
(42_conversion.md R101, R102). -/
theorem reading_centiUnits_near {f : Config.Transfer} {w x : Word16} (hx : x.toInt = centiUnits f w) :
    |reading x - (f.offset + f.span * (w.toNat : Rat) / 65535)| < 1 / 200 := by
  have hnear := abs_hundredths_lt_of_nearest (roundNearest_nearest (centiNumerator f w))
  have hexact : (centiNumerator f w : Rat) / 6553500 = f.offset + f.span * (w.toNat : Rat) / 65535 := by
    simp only [centiNumerator, Config.fullScale]
    push_cast
    ring
  rw [reading, hx, ← hexact]
  exact hnear

theorem reading_celsius_near (w : Word16) :
    |reading (enc16 (celsius w)) - (-45 + 175 * (w.toNat : Rat) / 65535)| < 1 / 200 := by
  simpa [Config.celsiusTransfer] using reading_centiUnits_near (enc16_celsius w)

theorem reading_fahrenheit_near (w : Word16) :
    |reading (enc16 (fahrenheit w)) - (-49 + 315 * (w.toNat : Rat) / 65535)| < 1 / 200 := by
  simpa [Config.fahrenheitTransfer] using reading_centiUnits_near (enc16_fahrenheit w)

theorem reading_humidity_near (w : Word16) :
    |reading (enc16 (humidity w)) - 100 * (w.toNat : Rat) / 65535| < 1 / 200 := by
  simpa [Config.humidityTransfer] using reading_centiUnits_near (enc16_humidity w)

/-! ### What every step keeps -/

/-- A property of the registers that holds at reset, that every OP write keeps, and that does not look at the DIN registers,
is kept by every step. -/
theorem step_preserves {P : Regs → Prop} (hreset : P Regs.reset)
    (hop : ∀ i r, i.isOpWrite = true → P r → P (regsAfter i r)) (hdin : ∀ r r', SameResults r r' → P r → P r')
    {s t : State} (hs : P s.regs) (h : step s = .next t) : P t.regs := by
  obtain ⟨rest, -, rfl⟩ | ⟨w, rest, i, -, hd, rfl⟩ := step_next h
  · exact hreset
  · cases hi : i.isOpWrite with
    | true => exact hop i _ hi hs
    | false => exact hdin _ _ (regsAfter_sameResults (decode_ok_wellFormed hd) hi _) hs

/-! ### The register invariant -/

theorem and_0x80_of_bit7 : ∀ v : Byte, v.getLsbD 7 = false → v &&& 0x80#8 = 0x00#8 := by decide

theorem reset_inv : Regs.reset.Inv := by
  constructor <;> decide

theorem SameResults.inv {r r' : Regs} (h : SameResults r r') (hr : r.Inv) : r'.Inv := by
  obtain ⟨hstat, hflags, htc, htf, hrh⟩ := hr
  constructor <;> simpa [h.stat, h.flags, h.tc, h.tf, h.rh]

theorem regsAfter_inv {i : Instr} (hop : i.isOpWrite = true) {r : Regs} (hr : r.Inv) : (regsAfter i r).Inv where
  statReserved := (regsAfter_statReserved hop r).trans hr.statReserved
  flagsReserved := by
    obtain h | ⟨w, h⟩ := regsAfter_flags hop r <;> rw [h]
    · exact hr.flagsReserved
    · exact statusDecode_bit7 w
  tcRange := by
    obtain h | ⟨w, h⟩ := regsAfter_tc hop r <;> rw [h]
    · exact hr.tcRange
    · rw [enc16_celsius]; exact celsius_range w
  tfRange := by
    obtain h | ⟨w, h⟩ := regsAfter_tf hop r <;> rw [h]
    · exact hr.tfRange
    · rw [enc16_fahrenheit]; exact fahrenheit_range w
  rhRange := by
    obtain h | ⟨w, h⟩ := regsAfter_rh hop r <;> rw [h]
    · exact hr.rhRange
    · rw [enc16_humidity]; exact humidity_range w

/-! ### The coherence of group 1 -/

theorem reset_groupOneCoherent : Regs.reset.GroupOneCoherent := .inl ⟨rfl, rfl, rfl⟩

/-- Coherence looks only at WORD1, CRC1 and OK1. -/
theorem groupOneCoherent_congr {r r' : Regs} (hword : r'.word1 = r.word1) (hcrc : r'.crc1 = r.crc1)
    (hok : r'.ok1 = r.ok1) (hr : r.GroupOneCoherent) : r'.GroupOneCoherent := by
  rwa [Regs.GroupOneCoherent, hword, hcrc, hok]

theorem opMeasfrm_groupOneCoherent (r : Regs) : (opMeasfrm r).GroupOneCoherent := by
  right
  simp

theorem regsAfter_groupOneCoherent {i : Instr} (hop : i.isOpWrite = true) {r : Regs} (hr : r.GroupOneCoherent) :
    (regsAfter i r).GroupOneCoherent := by
  cases hi : writesOk1 i with
  | true =>
    cases i with
    | measfrm => exact opMeasfrm_groupOneCoherent r
    | _ => cases hi
  | false =>
    obtain ⟨hword, hcrc⟩ := regsAfter_group1 hop hi r
    exact groupOneCoherent_congr hword hcrc (regsAfter_ok1 hop hi r) hr

/-! ### The statements -/

/-- Settles O46: reset has the invariant, and an OP write keeps STAT's reserved bits and puts into FLAGS, TC, TF and RH only
decoded and converted values. -/
theorem everyStepKeepsTheInvariant : Obligations.EveryStepKeepsTheInvariant :=
  fun _ _ hs h => step_preserves reset_inv (fun _ _ hop => regsAfter_inv hop) (fun _ _ => SameResults.inv) hs h

/-- Settles O49: MEASFRM makes group 1 coherent, and nothing else but a reset writes CRC1, WORD1 or OK1. -/
theorem everyStepKeepsGroupOneCoherent : Obligations.EveryStepKeepsGroupOneCoherent :=
  fun _ _ hs h => step_preserves reset_groupOneCoherent (fun _ _ hop => regsAfter_groupOneCoherent hop)
    (fun _ _ hsame => groupOneCoherent_congr hsame.word1 hsame.crc1 (statFields_congr hsame.stat).2.1) hs h

/-- Settles O13, by the address written: a DIN register, OP (ruled out by well-formedness), or an address above it. -/
theorem portReadAfterWrite : Obligations.PortReadAfterWrite := by
  intro a d b s hw
  refine ⟨_, exec_eq _ _, ?_⟩
  have hop : a.toNat ≠ 6 := by simpa [Instr.wellFormed, opAddress, ← BitVec.toNat_inj] using hw
  by_cases ha : a.toNat ≤ 5
  · simpa [regsAfter, ha] using portRead_portWrite_din ha s.regs d b
  · simp [regsAfter, ha, portWrite_of_seven_le (show 7 ≤ a.toNat by omega)]

/-- Settles O14: the OP writes are read off one by one, and none has a DIN register among its writes. -/
theorem noOpWriteChangesDin : Obligations.NoOpWriteChangesDin := by
  intro i s t hop h
  obtain ⟨hregs, -, -⟩ := exec_next h
  rw [hregs]
  exact regsAfter_din hop s.regs

/-- Settles O30: both steps are the same reset, or run the instruction that the one word decodes to. -/
theorem registersAfterDependOnlyOnRegistersBefore : Obligations.RegistersAfterDependOnlyOnRegistersBefore := by
  intro s s' t t' act rest rest' hp hp' hregs h h'
  cases act with
  | reset =>
    rw [step_hostReset hp] at h
    rw [step_hostReset hp'] at h'
    cases h
    cases h'
    exact ⟨rfl, [], by simp⟩
  | transaction w =>
    rcases hd : decode w with e | i
    · rw [step_refused hp hd] at h
      cases h
    · rw [step_transaction hp hd] at h
      rw [step_transaction hp' hd] at h'
      obtain ⟨hr, -, hout⟩ := exec_next h
      obtain ⟨hr', -, hout'⟩ := exec_next h'
      exact ⟨by rw [hr, hr', hregs], bytesReturned i s.regs, hout, by rw [hout', hregs]⟩

/-- Settles O32: a transaction that is no OP write leaves STAT alone, and an OP write touches only the bits it writes. -/
theorem statBitsChangeOnlyAtTheirWriters : Obligations.StatBitsChangeOnlyAtTheirWriters := by
  intro s t h
  obtain ⟨rest, hp, -⟩ | ⟨w, rest, i, hp, hd, rfl⟩ := step_next h
  · exact .inl ⟨rest, hp⟩
  · refine .inr ⟨w, rest, i, hp, hd, ?_⟩
    cases hop : i.isOpWrite with
    | true =>
      refine ⟨fun _ => rfl, fun hne => ?_, fun hne => ?_, fun _ => regsAfter_ill hop _⟩
      · exact Bool.of_not_eq_false fun hi => hne (regsAfter_ok0 hop hi _)
      · exact Bool.of_not_eq_false fun hi => hne (regsAfter_ok1 hop hi _)
    | false =>
      obtain ⟨hok0, hok1, hill⟩ := statFields_congr (regsAfter_sameResults (decode_ok_wellFormed hd) hop s.regs).stat
      exact ⟨absurd hill, absurd hok0, absurd hok1, nofun⟩

/-- Settles O44, by the rounding of each conversion and its fit in the register. -/
theorem readingsAreNearestHundredths : Obligations.ReadingsAreNearestHundredths :=
  fun _ => ⟨⟨_, exec_eq _ _, reading_celsius_near _⟩, ⟨_, exec_eq _ _, reading_fahrenheit_near _⟩,
    ⟨_, exec_eq _ _, reading_humidity_near _⟩,
    ⟨_, exec_eq _ _, reading_celsius_near _, reading_fahrenheit_near _, reading_humidity_near _⟩⟩

/-- Settles O10: every location of the map shows a register at its reset value, or 0x00. -/
theorem resetPortReadsZeroEverywhere : Obligations.ResetPortReadsZeroEverywhere := portRead_reset

/-- Settles O47: the two addresses show STAT and FLAGS, whose reserved bits the invariant holds at 0. -/
theorem reservedBitsReadZero : Obligations.ReservedBitsReadZero :=
  fun _ hs => ⟨⟨_, _, exec_eq _ _, rfl, hs.statReserved⟩, ⟨_, _, exec_eq _ _, rfl, and_0x80_of_bit7 _ hs.flagsReserved⟩⟩

end Sys2Proof.Machine

end

section
/-! PROOFS. What the port answers to each access and what an access leaves unchanged, for the statements about memory
(spec/20_memory.md). -/

namespace Sys2Proof.Machine

open Sys2Proof.Claims

/-! ### The bytes of the port -/

theorem hiByte_eq_setWidth (w : Word16) : hiByte w = (w >>> 8).setWidth 8 :=
  BitVec.setWidth_ushiftRight_eq_extractLsb.symm

theorem loByte_eq_setWidth (w : Word16) : loByte w = w.setWidth 8 :=
  (BitVec.setWidth_eq_extractLsb' (by decide)).symm

theorem locate_of_twentyTwo_le : ∀ a : Byte, 22 ≤ a.toNat → locate a = .reserved := by decide

/-- The port shows the register map's bytes in order of address (10_state.md R20, 20_memory.md R42). -/
theorem portRead_eq_portImage (r : Regs) (a : Byte) : portRead r a = (portImage r).getD a.toNat 0x00#8 := by
  by_cases ha : 22 ≤ a.toNat
  · have hlen : (portImage r).length ≤ a.toNat := ha
    rw [portRead, locate_of_twentyTwo_le a ha, List.getD_eq_default _ _ hlen]
  · obtain ⟨n, hn, rfl⟩ : ∃ n < 22, a = BitVec.ofNat 8 n := ⟨a.toNat, by omega, by simp⟩
    simp only [portRead, portImage, hiByte_eq_setWidth, loByte_eq_setWidth]
    interval_cases n <;> rfl

/-! ### The writes of the port -/

/-- A write of OP does to the registers what the operation of its code does, or the illegal case (30_encoding.md R63). -/
theorem regsAfter_decodeOpcode (c : Byte) (r : Regs) : regsAfter (decodeOpcode c) r = opWrite r c := by
  unfold decodeOpcode opWrite
  split <;> simp_all [regsAfter]

theorem bytesReturned_decodeOpcode (c : Byte) (r : Regs) : bytesReturned (decodeOpcode c) r = [] := by
  unfold decodeOpcode
  split <;> rfl

theorem exec_decodeOpcode (c : Byte) (s : State) :
    exec (decodeOpcode c) s = .next { s with regs := portWrite s.regs opAddress c } := by
  rw [exec_eq, regsAfter_decodeOpcode, bytesReturned_decodeOpcode, List.append_nil]
  rfl

theorem exec_wr (a d : Byte) (s : State) : exec (.wr a d) s = .next { s with regs := portWrite s.regs a d } := rfl

theorem exec_wr_of_seven_le {a : Byte} (ha : 7 ≤ a.toNat) (d : Byte) (s : State) : exec (.wr a d) s = .next s := by
  rw [exec_wr, portWrite_of_seven_le ha]

/-! ### What an OP write leaves unchanged -/

theorem locate_writesColumn {i : Instr} : ∀ a ∈ writesColumn i, locate a ≠ .reserved := by
  cases i with
  | opIllegal | rd | wr => exact fun _ h => absurd h List.not_mem_nil
  | _ => decide

/-- An address outside the Writes column, and other than STAT's, shows no location that the column names. -/
theorem locate_not_written {i : Instr} {b : Byte} (hstat : b ≠ 0x07#8) (hb : b ∉ writesColumn i) :
    locate b ∉ Location.stat :: (writesColumn i).map locate := by
  have hnot : locate b ≠ .stat := mt (locate_injective (a := 0x07#8) (by decide)) hstat
  simp only [List.mem_cons, List.mem_map, not_or, not_exists, not_and]
  refine ⟨hnot, fun a ha heq => hb ?_⟩
  rwa [locate_injective (locate_writesColumn a ha) heq.symm]

/-- An OP write changes what the port shows only at STAT and in its Writes column (30_encoding.md R63). -/
theorem portRead_regsAfter_opWrite {i : Instr} (hop : i.isOpWrite = true) {b : Byte} (hstat : b ≠ 0x07#8)
    (hb : b ∉ writesColumn i) (r : Regs) : portRead (regsAfter i r) b = portRead r b := by
  have hl := locate_not_written hstat hb
  unfold portRead
  generalize locate b = l at hl
  cases i with
  | rd | wr => cases hop
  | _ =>
    simp only [writesColumn, locate, List.map_cons, List.map_nil, List.mem_cons, List.not_mem_nil] at hl
    cases l <;> simp only [reduceCtorEq, or_true, true_or, not_true_eq_false] at hl <;> rfl

/-! ### An operation run twice -/

/-! The STAT an operation leaves, run through the same bit writes again, is as it was: the last write of each bit
decides. -/

theorem legalStat_again (v : Byte) : legalStat (legalStat v) = legalStat v := by
  apply BitVec.eq_of_getLsbD_eq
  intro j _
  simp (disch := decide) only [legalStat, putIll, getLsbD_putBit]
  split_ifs <;> rfl

theorem legalStat_putOk0_again (v : Byte) (b : Bool) :
    legalStat (putOk0 (legalStat (putOk0 v b)) b) = legalStat (putOk0 v b) := by
  apply BitVec.eq_of_getLsbD_eq
  intro j _
  simp (disch := decide) only [legalStat, putIll, putOk0, getLsbD_putBit]
  split_ifs <;> rfl

theorem legalStat_putOk1_putOk0_again (v : Byte) (b c : Bool) :
    legalStat (putOk1 (putOk0 (legalStat (putOk1 (putOk0 v b) c)) b) c) = legalStat (putOk1 (putOk0 v b) c) := by
  apply BitVec.eq_of_getLsbD_eq
  intro j _
  simp (disch := decide) only [legalStat, putIll, putOk0, putOk1, getLsbD_putBit]
  split_ifs <;> rfl

/-- A legal operation run again writes the values it has already written: its operands are DIN registers (20_memory.md
R45). -/
theorem regsAfter_again {i : Instr} (hi : i.isOperation = true) (r : Regs) :
    regsAfter i (regsAfter i r) = regsAfter i r := by
  cases i with
  | opIllegal | rd | wr => cases hi
  | crc8 | decode | convc | convf | convrh =>
    simp only [regsAfter, opCrc8, opDecode, opConvc, opConvf, opConvrh, Regs.group0Word, legalStat_again]
  | verify | statfrm =>
    simp only [regsAfter, opVerify, opStatfrm, Regs.group0Word, Regs.group0Checksum, legalStat_putOk0_again]
  | measfrm =>
    simp only [regsAfter, opMeasfrm, Regs.group0Word, Regs.group0Checksum, Regs.group1Word, Regs.group1Checksum,
      legalStat_putOk1_putOk0_again]

/-! ### The host's plan -/

theorem decode_ok_of_spellsTransaction {w : TxnWord} (h : spellsTransaction w = true) : ∃ i, decode w = .ok i := by
  simp only [spellsTransaction, Bool.and_eq_true, Bool.or_eq_true, beq_iff_eq, Bool.not_eq_true'] at h
  obtain ⟨hz, hread⟩ := h
  unfold decode
  rw [if_neg (not_not_intro hz)]
  split
  · rename_i hr
    obtain hr' | hdata := hread
    · rw [hr] at hr'; cases hr'
    · exact ⟨_, if_neg (not_not_intro hdata)⟩
  · split <;> exact ⟨_, rfl⟩

/-- A real action is taken off the plan and answered with a next state. -/
theorem step_of_real {s : State} {a : HostAction} {rest : List HostAction} (hp : s.pending = a :: rest)
    (ha : a.real = true) : ∃ t, step s = .next t ∧ t.pending = rest := by
  cases a with
  | reset => exact ⟨_, step_hostReset hp, rfl⟩
  | transaction w =>
    obtain ⟨i, hd⟩ := decode_ok_of_spellsTransaction ha
    exact ⟨_, (step_transaction hp hd).trans (exec_eq _ _), rfl⟩

theorem step_safe {s : State} (hs : s.safe = true) (hp : s.pending ≠ []) : ∃ t, step s = .next t ∧ t.safe = true := by
  obtain ⟨a, rest, hp⟩ := List.exists_cons_of_ne_nil hp
  rw [State.safe, hp, List.all_cons, Bool.and_eq_true] at hs
  obtain ⟨ha, hrest⟩ := hs
  obtain ⟨t, ht, rfl⟩ := step_of_real hp ha
  exact ⟨t, ht, hrest⟩

/-- What a step does to the rest of the state does not depend on what the host plans after the action taken. -/
theorem step_replan {s t : State} {a : HostAction} {rest : List HostAction} (hp : s.pending = a :: rest)
    (h : step s = .next t) (rest' : List HostAction) :
    step { s with pending := a :: rest' } = .next { t with pending := rest' } := by
  obtain ⟨_, hp', rfl⟩ | ⟨w, _, i, hp', hd, rfl⟩ := step_next h <;> rw [hp] at hp' <;> cases hp'
  · exact step_hostReset rfl
  · exact (step_transaction rfl hd).trans (exec_eq _ _)

theorem run_succ_next {s t : State} {n : Nat} (h : core.run (n + 1) s = .next t) :
    ∃ u, step s = .next u ∧ core.run n u = .next t := by
  rcases hs : step s with u | f | e
  · exact ⟨u, rfl, (run_succ n hs).symm.trans h⟩
  · rw [run_succ_fault n hs] at h; cases h
  · rw [run_succ_refused n hs] at h; cases h

/-- A run over the first part of a plan leaves the later part, and with another later part it leaves that one and the same
state otherwise (20_memory.md R47). -/
theorem run_replan {first later : List HostAction} (later' : List HostAction) {s t : State}
    (hp : s.pending = first ++ later) (h : core.run first.length s = .next t) :
    t.pending = later ∧
      core.run first.length { s with pending := first ++ later' } = .next { t with pending := later' } := by
  induction first generalizing s with
  | nil =>
    rw [List.length_nil, run_zero] at h
    cases h
    exact ⟨hp, rfl⟩
  | cons a first ih =>
    obtain ⟨u, hstep, hrun⟩ := run_succ_next h
    obtain ⟨_, hpu⟩ := step_pending hstep
    have hu : u.pending = first ++ later := (List.cons.inj (hpu.symm.trans hp)).2
    obtain ⟨ht, hrun'⟩ := ih hu hrun
    exact ⟨ht, (run_succ _ (step_replan hp hstep (first ++ later'))).trans hrun'⟩

/-! ### The statements -/

/-- Settles O8: the two stops are the step's own, and a real action always has a next state. -/
theorem stepStopsOnlyWithoutTransaction : Obligations.StepStopsOnlyWithoutTransaction :=
  fun _ => ⟨fun _ _ _ => step_refused, step_idle, step_safe⟩

/-- Settles O12, row by row: reads show the register map, and each write address runs into its own case of the port. -/
theorem portRespondsAsTheAccessTable : Obligations.PortRespondsAsTheAccessTable := by
  intro s
  refine ⟨fun a => ?read, fun d => ⟨rfl, rfl, rfl, rfl, rfl, rfl⟩, fun c => exec_decodeOpcode c s,
    fun a d ha => exec_wr_of_seven_le ha d s, fun i _ => ⟨_, exec_eq i s⟩⟩
  rw [← portRead_eq_portImage]
  rfl

/-- Settles O16, one part for each kind of access; operations are idempotent because they write no operand of theirs. -/
theorem sideEffectsAreThoseListed : Obligations.SideEffectsAreThoseListed := by
  refine ⟨?read, ?dinWrite, ?opWrite, ?stat, ?ignoredWrite, ?again⟩
  case read =>
    intro a s t h
    obtain ⟨hregs, hpending, -⟩ := exec_next h
    exact ⟨hregs, hpending⟩
  case dinWrite =>
    intro a d b s t h ha hb
    obtain ⟨hregs, -, -⟩ := exec_next h
    rw [hregs]
    exact (portRead_portWrite_din ha s.regs d b).trans (if_neg hb)
  case opWrite =>
    intro i s t b _ hop h hstat hb
    obtain ⟨hregs, -, -⟩ := exec_next h
    rw [hregs]
    exact portRead_regsAfter_opWrite hop hstat hb s.regs
  case stat =>
    intro i s t _ hop h
    obtain ⟨hregs, -, -⟩ := exec_next h
    rw [hregs]
    exact ⟨fun hi => regsAfter_ok0 hop hi _, fun hi => regsAfter_ok1 hop hi _, regsAfter_statReserved hop _⟩
  case ignoredWrite =>
    intro a d s t h ha
    rw [exec_wr_of_seven_le ha] at h
    cases h
    rfl
  case again =>
    intro i s t u hi ht hu
    obtain ⟨hregs, -, -⟩ := exec_next ht
    obtain ⟨hregs', -, -⟩ := exec_next hu
    rw [hregs', hregs]
    exact regsAfter_again hi s.regs

/-- Settles O17: a transaction that is no OP write changes at most the DIN registers. -/
theorem wideRegistersChangeOnlyAtOpWrites : Obligations.WideRegistersChangeOnlyAtOpWrites := by
  intro i s t hw hop h
  obtain ⟨hregs, -, -⟩ := exec_next h
  rw [hregs]
  have hsame := regsAfter_sameResults hw hop s.regs
  exact ⟨hsame.word0, hsame.word1, hsame.tc, hsame.tf, hsame.rh⟩

/-- Settles O51: the run over the first part is the same with nothing planned after it. -/
theorem hostActionsTakeEffectInOrder : Obligations.HostActionsTakeEffectInOrder := by
  intro s t first later hp h
  obtain ⟨ht, hrun⟩ := run_replan [] hp h
  rw [List.append_nil] at hrun
  exact ⟨ht, _, hrun, rfl, rfl, rfl⟩

/-- Settles O7: the step takes the action off the plan, decodes its word and dispatches. -/
theorem stepRunsTheDecodedTransaction : Obligations.StepRunsTheDecodedTransaction :=
  fun _ _ _ _ => step_transaction

end Sys2Proof.Machine

end

section
/-! PROOFS. The two round trips between words and instructions, the opcode table, the port access a word spells, and the
Reads and Writes columns of the operations, for the statements about the encoding (spec/30_encoding.md). -/

namespace Sys2Proof.Machine

open Sys2Proof.Claims

/-! ### The fields of a word -/

/-- The four fields are the whole of a word (30_encoding.md R61). -/
theorem txnWord_ext {w w' : TxnWord} (hz : TxnWord.z w = TxnWord.z w') (hread : TxnWord.isRead w = TxnWord.isRead w')
    (haddr : TxnWord.addr w = TxnWord.addr w') (hdata : TxnWord.data w = TxnWord.data w') : w = w' := by
  apply BitVec.eq_of_getLsbD_eq
  intro i hi
  obtain h | h | rfl | h : i < 8 ∨ (8 ≤ i ∧ i < 16) ∨ i = 16 ∨ 17 ≤ i := by omega
  · simpa [TxnWord.data, h] using congrArg (·.getLsbD i) hdata
  · simpa [TxnWord.addr, show i - 8 < 8 by omega, show 8 + (i - 8) = i by omega]
      using congrArg (·.getLsbD (i - 8)) haddr
  · exact hread
  · simpa [TxnWord.z, show i - 17 < 7 by omega, show 17 + (i - 17) = i by omega]
      using congrArg (·.getLsbD (i - 17)) hz

theorem eq_readWord {w : TxnWord} (hz : TxnWord.z w = 0) (hread : TxnWord.isRead w = true) (hdata : TxnWord.data w = 0) :
    w = readWord (TxnWord.addr w) :=
  txnWord_ext (hz.trans (readWord_z _).symm) (hread.trans (readWord_isRead _).symm) (readWord_addr _).symm
    (hdata.trans (readWord_data _).symm)

theorem eq_writeWord {w : TxnWord} (hz : TxnWord.z w = 0) (hread : TxnWord.isRead w = false) :
    w = writeWord (TxnWord.addr w) (TxnWord.data w) :=
  txnWord_ext (hz.trans (writeWord_z _ _).symm) (hread.trans (writeWord_isRead _ _).symm) (writeWord_addr _ _).symm
    (writeWord_data _ _).symm

/-! ### The decoder on each form of word -/

theorem decode_readWord (a : Byte) : decode (readWord a) = .ok (.rd a) := by
  simp [decode, readWord_z, readWord_isRead, readWord_data, readWord_addr]

theorem decode_opWord (c : Byte) : decode (opWord c) = .ok (decodeOpcode c) := by
  simp [decode, opWord, writeWord_z, writeWord_isRead, writeWord_addr, writeWord_data]

theorem decode_writeWord {a : Byte} (ha : a ≠ opAddress) (d : Byte) : decode (writeWord a d) = .ok (.wr a d) := by
  simp [decode, writeWord_z, writeWord_isRead, writeWord_addr, writeWord_data, ha]

/-- Every word that decodes has one of three forms: a read, an OP write, or a write elsewhere (30_encoding.md R64). -/
theorem decode_ok_forms {w : TxnWord} {i : Instr} (h : decode w = .ok i) :
    (∃ a, w = readWord a ∧ i = .rd a) ∨ (∃ c, w = opWord c ∧ i = decodeOpcode c) ∨
    (∃ a d, a ≠ opAddress ∧ w = writeWord a d ∧ i = .wr a d) := by
  unfold decode at h
  split_ifs at h with hz hread hdata haddr <;> cases h
  · exact .inl ⟨_, eq_readWord (not_not.1 hz) hread (not_not.1 hdata), rfl⟩
  all_goals have hw := eq_writeWord (not_not.1 hz) (Bool.eq_false_of_not_eq_true hread)
  · rw [haddr] at hw
    exact .inr (.inl ⟨_, hw, rfl⟩)
  · exact .inr (.inr ⟨_, _, haddr, hw, rfl⟩)

/-- The decoder refuses a word for one of two defects (30_encoding.md R66). -/
theorem decode_error_iff (w : TxnWord) :
    (∃ why, decode w = .error why) ↔ TxnWord.z w ≠ 0 ∨ (TxnWord.isRead w = true ∧ TxnWord.data w ≠ 0) := by
  unfold decode
  split_ifs with hz hread hdata
  · exact iff_of_true ⟨_, rfl⟩ (.inl hz)
  · exact iff_of_true ⟨_, rfl⟩ (.inr ⟨hread, hdata⟩)
  · exact iff_of_false nofun (not_or.2 ⟨hz, fun hd => hdata hd.2⟩)
  all_goals exact iff_of_false nofun (not_or.2 ⟨hz, fun hd => hread hd.1⟩)

/-! ### The opcodes -/

theorem decodeOpcode_eq_opIllegal_iff : ∀ c : Byte, decodeOpcode c = .opIllegal c ↔ (c.toNat = 0 ∨ 9 ≤ c.toNat) := by
  decide

theorem decodeOpcode_of_illegal : ∀ c : Byte, illegalOpcode c = true → decodeOpcode c = .opIllegal c := by decide

theorem encode_decodeOpcode (c : Byte) : encode (decodeOpcode c) = opWord c := by
  unfold decodeOpcode
  split <;> rfl

theorem or_setWidth_eq_opWord : ∀ c : Byte, 0x000600#24 ||| c.setWidth 24 = opWord c := by decide

/-! ### The round trips -/

theorem decode_encode {i : Instr} (h : i.wellFormed = true) : decode (encode i) = .ok i := by
  cases i with
  | opIllegal c => exact (decode_opWord c).trans (congrArg _ (decodeOpcode_of_illegal c h))
  | rd a => exact decode_readWord a
  | wr a d => exact decode_writeWord (by simpa [Instr.wellFormed] using h) d
  | _ => exact decode_opWord _

theorem encode_of_decode {w : TxnWord} {i : Instr} (h : decode w = .ok i) : encode i = w := by
  obtain ⟨a, rfl, rfl⟩ | ⟨c, rfl, rfl⟩ | ⟨a, d, -, rfl, rfl⟩ := decode_ok_forms h
  · rfl
  · exact encode_decodeOpcode c
  · rfl

/-! ### The opcode table -/

/-- A row of the table fits a word when it fits each of its fields. -/
theorem and_eq_iff_fields (w m p : TxnWord) : w &&& m = p ↔
    TxnWord.z w &&& TxnWord.z m = TxnWord.z p ∧ (TxnWord.isRead w && TxnWord.isRead m) = TxnWord.isRead p ∧
    TxnWord.addr w &&& TxnWord.addr m = TxnWord.addr p ∧ TxnWord.data w &&& TxnWord.data m = TxnWord.data p := by
  have hz : TxnWord.z (w &&& m) = TxnWord.z w &&& TxnWord.z m := BitVec.extractLsb'_and
  have hread : TxnWord.isRead (w &&& m) = (TxnWord.isRead w && TxnWord.isRead m) := BitVec.getLsbD_and
  have haddr : TxnWord.addr (w &&& m) = TxnWord.addr w &&& TxnWord.addr m := BitVec.extractLsb'_and
  have hdata : TxnWord.data (w &&& m) = TxnWord.data w &&& TxnWord.data m := BitVec.extractLsb'_and
  rw [← hz, ← hread, ← haddr, ← hdata]
  constructor
  · rintro rfl
    exact ⟨rfl, rfl, rfl, rfl⟩
  · rintro ⟨hz, hread, haddr, hdata⟩
    exact txnWord_ext hz hread haddr hdata

/-- Every row asks for clear reserved bits, and a row that asks for a read asks for clear data bits too (30_encoding.md
R66). -/
theorem opcodeTable_masks : ∀ row ∈ opcodeTable, TxnWord.z row.mask = BitVec.allOnes 7 ∧ TxnWord.z row.pattern = 0 ∧
    TxnWord.isRead row.mask = true ∧
    (TxnWord.isRead row.pattern = true → TxnWord.data row.mask = BitVec.allOnes 8 ∧ TxnWord.data row.pattern = 0) := by
  decide

/-- The first row that fits a word (30_encoding.md R64). -/
def firstRow (w : TxnWord) : Option OpcodeRow := opcodeTable.find? fun row => w &&& row.mask == row.pattern

theorem firstRow_of_error {w : TxnWord} {why : NotATransaction} (h : decode w = .error why) : firstRow w = none := by
  refine List.find?_eq_none.2 fun row hrow hfit => ?_
  obtain ⟨hzm, hzp, hreadm, hdata⟩ := opcodeTable_masks row hrow
  obtain ⟨hz, hread, -, hd⟩ := (and_eq_iff_fields _ _ _).1 (beq_iff_eq.1 hfit)
  rw [hzm, hzp, BitVec.and_allOnes] at hz
  rw [hreadm, Bool.and_true] at hread
  obtain hz' | ⟨hread', hd'⟩ := (decode_error_iff w).1 ⟨why, h⟩
  · exact hz' hz
  · obtain ⟨hdm, hdp⟩ := hdata (hread.symm.trans hread')
    rw [hdm, hdp, BitVec.and_allOnes] at hd
    exact hd' hd

theorem firstRow_readWord : ∀ a : Byte, (firstRow (readWord a)).map OpcodeRow.mnemonic = some "RD" := by decide

theorem firstRow_opWord :
    ∀ c : Byte, (firstRow (opWord c)).map OpcodeRow.mnemonic = some (decodeOpcode c).mnemonic := by decide

/-- Every row before the last asks for OP's address or for a read (30_encoding.md R64). -/
theorem opcodeTable_dropLast_masks : ∀ row ∈ opcodeTable.dropLast,
    (TxnWord.addr row.mask = BitVec.allOnes 8 ∧ TxnWord.addr row.pattern = opAddress) ∨
    (TxnWord.isRead row.mask = true ∧ TxnWord.isRead row.pattern = true) := by
  decide

theorem firstRow_writeWord {a : Byte} (ha : a ≠ opAddress) (d : Byte) :
    (firstRow (writeWord a d)).map OpcodeRow.mnemonic = some "WR" := by
  have hfirst : opcodeTable.dropLast.find? (fun row => writeWord a d &&& row.mask == row.pattern) = none := by
    refine List.find?_eq_none.2 fun row hrow hfit => ?_
    obtain ⟨-, hread, haddr, -⟩ := (and_eq_iff_fields _ _ _).1 (beq_iff_eq.1 hfit)
    rw [writeWord_isRead, Bool.false_and] at hread
    rw [writeWord_addr] at haddr
    obtain ⟨hm, hp⟩ | ⟨-, hp⟩ := opcodeTable_dropLast_masks row hrow
    · rw [hm, hp, BitVec.and_allOnes] at haddr
      exact ha haddr
    · cases hread.trans hp
  have hlast : writeWord a d &&& 0xFF0000#24 = 0x000000#24 :=
    (and_eq_iff_fields _ _ _).2
      ⟨by rw [writeWord_z]; rfl, by rw [writeWord_isRead]; rfl, BitVec.and_zero, BitVec.and_zero⟩
  have htable : opcodeTable = opcodeTable.dropLast ++ [⟨"WR", 0x000000#24, 0xFF0000#24⟩] := rfl
  rw [firstRow, htable, List.find?_append, hfirst]
  simp [hlast]

/-! ### Operations -/

theorem isOpWrite_of_isOperation {i : Instr} (h : i.isOperation = true) : i.isOpWrite = true := by
  cases i with
  | opIllegal | rd | wr => cases h
  | _ => rfl

theorem bytesReturned_of_isOpWrite {i : Instr} (h : i.isOpWrite = true) (r : Regs) : bytesReturned i r = [] := by
  cases i with
  | rd | wr => cases h
  | _ => rfl

/-! ### What a run of well-formed instructions does -/

/-- The state after an instruction. -/
def stateAfter (s : State) (i : Instr) : State :=
  { regs := regsAfter i s.regs, pending := s.pending, returned := s.returned ++ bytesReturned i s.regs }

theorem step_encode {s : State} {i : Instr} {rest : List HostAction} (hi : i.wellFormed = true)
    (hp : s.pending = .transaction (encode i) :: rest) : step s = .next (stateAfter { s with pending := rest } i) :=
  (step_transaction hp (decode_encode hi)).trans (exec_eq _ _)

theorem stateAfter_wr (s : State) (a d : Byte) : stateAfter s (.wr a d) = { s with regs := portWrite s.regs a d } :=
  congrArg (State.mk _ _) (List.append_nil _)

theorem stateAfter_rd (s : State) (a : Byte) :
    stateAfter s (.rd a) = { s with returned := s.returned ++ [portRead s.regs a] } := rfl

/-- The state after a list of instructions. -/
def stateAfterAll (s : State) (l : List Instr) : State := l.foldl stateAfter s

/-- The transactions of a list of well-formed instructions run it in order, one step each (30_encoding.md R71). -/
theorem run_hostActions {l : List Instr} (hl : ∀ i ∈ l, i.wellFormed = true) {rest : List HostAction} {s : State}
    (hp : s.pending = hostActions l ++ rest) :
    core.run l.length s = .next (stateAfterAll { s with pending := rest } l) := by
  induction l generalizing s with
  | nil =>
    have hrest : s.pending = rest := hp
    rw [← hrest]
    exact run_zero s
  | cons i l ih =>
    obtain ⟨hi, hl⟩ := List.forall_mem_cons.1 hl
    exact (run_succ _ (step_encode hi hp)).trans (ih hl rfl)

theorem stateAfterAll_writes (s : State) (l : List (Byte × Byte)) :
    stateAfterAll s (l.map fun p => .wr p.1 p.2) =
      { s with regs := l.foldl (fun r p => portWrite r p.1 p.2) s.regs } := by
  induction l generalizing s with
  | nil => rfl
  | cons p l ih =>
    calc stateAfterAll s ((p :: l).map fun p => .wr p.1 p.2)
        = stateAfterAll (stateAfter s (.wr p.1 p.2)) (l.map fun p => .wr p.1 p.2) := rfl
      _ = _ := by rw [ih, stateAfter_wr]; rfl

/-! What each expansion of writes leaves: the DIN registers its name says, and nothing else (30_encoding.md R71). -/

theorem stateAfterAll_ldw0 (s : State) (v : Word16) : stateAfterAll s (Pseudo.ldw0 v).expand =
    { s with regs := { s.regs with din0 := hiByte v, din1 := loByte v } } :=
  stateAfterAll_writes s [(0x00#8, hiByte v), (0x01#8, loByte v)]

theorem stateAfterAll_ldw1 (s : State) (v : Word16) : stateAfterAll s (Pseudo.ldw1 v).expand =
    { s with regs := { s.regs with din3 := hiByte v, din4 := loByte v } } :=
  stateAfterAll_writes s [(0x03#8, hiByte v), (0x04#8, loByte v)]

theorem stateAfterAll_ldfrm3 (s : State) (b0 b1 b2 : Byte) : stateAfterAll s (Pseudo.ldfrm3 b0 b1 b2).expand =
    { s with regs := { s.regs with din0 := b0, din1 := b1, din2 := b2 } } :=
  stateAfterAll_writes s [(0x00#8, b0), (0x01#8, b1), (0x02#8, b2)]

theorem stateAfterAll_ldfrm6 (s : State) (b0 b1 b2 b3 b4 b5 : Byte) :
    stateAfterAll s (Pseudo.ldfrm6 b0 b1 b2 b3 b4 b5).expand =
      { s with regs := { s.regs with din0 := b0, din1 := b1, din2 := b2, din3 := b3, din4 := b4, din5 := b5 } } :=
  stateAfterAll_writes s [(0x00#8, b0), (0x01#8, b1), (0x02#8, b2), (0x03#8, b3), (0x04#8, b4), (0x05#8, b5)]

/-- A wide register is read at its two addresses, high byte first (20_memory.md R42). -/
theorem portRead_wide (r : Regs) (name : WideReg) :
    portRead r name.hiAddress = hiByte (r.wide name) ∧ portRead r (name.hiAddress + 1#8) = loByte (r.wide name) := by
  cases name <;> exact ⟨rfl, rfl⟩

theorem stateAfterAll_rd16 (s : State) (name : WideReg) : stateAfterAll s (Pseudo.rd16 name).expand =
    { s with returned := s.returned ++ [hiByte (s.regs.wide name), loByte (s.regs.wide name)] } := by
  obtain ⟨hhi, hlo⟩ := portRead_wide s.regs name
  simp [stateAfterAll, Pseudo.expand, stateAfter_rd, hhi, hlo]

theorem expand_wellFormed (p : Pseudo) : ∀ i ∈ p.expand, i.wellFormed = true := by
  cases p with
  | rd16 name => cases name <;> decide
  | _ => simp [Pseudo.expand, Instr.wellFormed, opAddress]

/-! ### The operands of an operation -/

section

/-! Register files that agree on the Reads column of an operation agree on the DIN registers it takes (30_encoding.md
R63). -/

variable {i : Instr} {r r' : Regs} (hreads : ∀ a ∈ readsColumn i, portRead r a = portRead r' a)

include hreads

theorem group0Word_of_reads (hi : i.isOperation = true) : r.din0 = r'.din0 ∧ r.din1 = r'.din1 := by
  cases i with
  | opIllegal | rd | wr => cases hi
  | _ => exact ⟨hreads 0x00#8 (by decide), hreads 0x01#8 (by decide)⟩

theorem group0Checksum_of_reads (hok : writesOk0 i = true) : r.din2 = r'.din2 := by
  cases i with
  | verify | statfrm | measfrm => exact hreads 0x02#8 (by decide)
  | _ => cases hok

theorem group1_of_reads (hok : writesOk1 i = true) : r.din3 = r'.din3 ∧ r.din4 = r'.din4 ∧ r.din5 = r'.din5 := by
  cases i with
  | measfrm => exact ⟨hreads 0x03#8 (by decide), hreads 0x04#8 (by decide), hreads 0x05#8 (by decide)⟩
  | _ => cases hok

/-- Every result is computed from the operands alone (10_state.md R29). -/
theorem portRead_regsAfter_congr (hi : i.isOperation = true) {a : Byte} (ha : a ∈ writesColumn i) :
    portRead (regsAfter i r) a = portRead (regsAfter i r') a := by
  obtain ⟨h0, h1⟩ := group0Word_of_reads hreads hi
  cases i with
  | opIllegal | rd | wr => cases hi
  | measfrm =>
    obtain ⟨h3, h4, -⟩ := group1_of_reads hreads rfl
    fin_cases ha <;> simp [portRead, locate, regsAfter, h0, h1, h3, h4]
  | _ => fin_cases ha <;> simp [portRead, locate, regsAfter, h0, h1]

end

theorem regsAfter_ok0_eq_verify {i : Instr} (hok : writesOk0 i = true) (r : Regs) :
    (regsAfter i r).ok0 = verify r.din0 r.din1 r.din2 := by
  cases i with
  | verify | statfrm => exact (legalStat_bits _).2.1.trans (putOk0_bits _ _).1
  | measfrm => exact (legalStat_bits _).2.1.trans ((putOk1_bits _ _).1.trans (putOk0_bits _ _).1)
  | _ => cases hok

theorem regsAfter_ok1_eq_verify {i : Instr} (hok : writesOk1 i = true) (r : Regs) :
    (regsAfter i r).ok1 = verify r.din3 r.din4 r.din5 := by
  cases i with
  | measfrm => exact (legalStat_bits _).2.2.trans (putOk1_bits _ _).2.1
  | _ => cases hok

/-! ### The statements -/

/-- Settles O2, by the form of each instruction's word. -/
theorem decodeOfEncodeIsIdentity : Obligations.DecodeOfEncodeIsIdentity := fun _ => decode_encode

/-- Settles O3: a word that decodes has one of three forms, and each is the word of what it decodes to. -/
theorem encodeOfDecodeIsIdentity : Obligations.EncodeOfDecodeIsIdentity :=
  fun _ _ h => ⟨decode_ok_wellFormed h, encode_of_decode h⟩

/-- Settles O4: the two defects are the decoder's two refusals, and a step hands a refusal on. -/
theorem decoderRefusesExactlyNonTransactions : Obligations.DecoderRefusesExactlyNonTransactions := by
  refine ⟨decode_error_iff, fun w s rest hp hdefect => ?_⟩
  obtain ⟨why, hd⟩ := (decode_error_iff w).2 hdefect
  exact ⟨why, step_refused hp hd⟩

/-- Settles O5, by what the decoder answers: on a refusal no row fits, and each form of word finds its own row. -/
theorem decoderFollowsOpcodeTable : Obligations.DecoderFollowsOpcodeTable := by
  intro w
  change _ = (firstRow w).map OpcodeRow.mnemonic
  rcases hd : decode w with why | i
  · rw [firstRow_of_error hd]
    rfl
  · obtain ⟨a, rfl, rfl⟩ | ⟨c, rfl, rfl⟩ | ⟨a, d, ha, rfl, rfl⟩ := decode_ok_forms hd
    · exact (firstRow_readWord a).symm
    · exact (firstRow_opWord c).symm
    · exact (firstRow_writeWord ha d).symm

/-- Settles O11, by the form of the word. -/
theorem transactionIsThePortAccessItSpells : Obligations.TransactionIsThePortAccessItSpells := by
  intro w i s h
  change exec i s = if TxnWord.isRead w then .next { s with returned := s.returned ++ [portRead s.regs (TxnWord.addr w)] }
    else .next { s with regs := portWrite s.regs (TxnWord.addr w) (TxnWord.data w) }
  obtain ⟨a, rfl, rfl⟩ | ⟨c, rfl, rfl⟩ | ⟨a, d, ha, rfl, rfl⟩ := decode_ok_forms h
  · rw [readWord_isRead, readWord_addr]
    rfl
  · rw [opWord, writeWord_isRead, writeWord_addr, writeWord_data]
    exact exec_decodeOpcode c s
  · rw [writeWord_isRead, writeWord_addr, writeWord_data]
    exact exec_wr a d s

/-- Settles O18: each expansion runs in order, its writes land in their DIN registers, and its reads show the two bytes of
the register named. -/
theorem pseudoInstructionsRunAsExpanded : Obligations.PseudoInstructionsRunAsExpanded := by
  intro s rest
  refine ⟨fun v hp => ?ldw0, fun v hp => ?ldw1, fun b0 b1 b2 hp => ?ldfrm3, fun b0 b1 b2 b3 b4 b5 hp => ?ldfrm6,
    fun name hp => ?rd16⟩
  all_goals have hrun := run_hostActions (expand_wellFormed _) hp
  case ldw0 =>
    rw [stateAfterAll_ldw0] at hrun
    exact ⟨_, hrun, rfl, wordOf_hiByte_loByte v, rfl, rfl⟩
  case ldw1 =>
    rw [stateAfterAll_ldw1] at hrun
    exact ⟨_, hrun, rfl, wordOf_hiByte_loByte v, rfl, rfl⟩
  case ldfrm3 => exact ⟨_, hrun, stateAfterAll_ldfrm3 _ b0 b1 b2⟩
  case ldfrm6 => exact ⟨_, hrun, stateAfterAll_ldfrm6 _ b0 b1 b2 b3 b4 b5⟩
  case rd16 => exact ⟨_, _, _, hrun, stateAfterAll_rd16 _ name, wordOf_hiByte_loByte _⟩

/-- Settles O28: what an OP write leaves unchanged, for the legal operations. -/
theorem operationsWriteOnlyTheirColumn : Obligations.OperationsWriteOnlyTheirColumn := by
  intro i s hi
  have hop := isOpWrite_of_isOperation hi
  have hill : (regsAfter i s.regs).ill = false := by rw [regsAfter_ill hop, hi]; rfl
  have hreturned : s.returned ++ bytesReturned i s.regs = s.returned := by
    rw [bytesReturned_of_isOpWrite hop, List.append_nil]
  exact ⟨_, exec_eq i s, fun a hstat ha => portRead_regsAfter_opWrite hop hstat ha s.regs, hill,
    fun h => regsAfter_ok0 hop h s.regs, fun h => regsAfter_ok1 hop h s.regs, regsAfter_statReserved hop s.regs,
    hreturned, rfl⟩

/-- Settles O29: the Reads column names every operand of the results and of the OK bits. -/
theorem resultsDependOnlyOnTheReadsColumn : Obligations.ResultsDependOnlyOnTheReadsColumn := by
  intro i s s' t t' hi hreads h h'
  obtain ⟨hregs, -, -⟩ := exec_next h
  obtain ⟨hregs', -, -⟩ := exec_next h'
  rw [hregs, hregs']
  refine ⟨fun a ha => portRead_regsAfter_congr hreads hi ha, fun hok => ?ok0, fun hok => ?ok1⟩
  case ok0 =>
    obtain ⟨h0, h1⟩ := group0Word_of_reads hreads hi
    rw [regsAfter_ok0_eq_verify hok, regsAfter_ok0_eq_verify hok, h0, h1, group0Checksum_of_reads hreads hok]
  case ok1 =>
    obtain ⟨h3, h4, h5⟩ := group1_of_reads hreads hok
    rw [regsAfter_ok1_eq_verify hok, regsAfter_ok1_eq_verify hok, h3, h4, h5]

/-- Settles O1, by evaluation. -/
theorem writtenOutWordsDecode : Obligations.WrittenOutWordsDecode := by
  unfold Obligations.WrittenOutWordsDecode
  decide

/-- Settles O6: the word is the OP write of the code, and the opcode map gives the illegal case outside 1 to 8. -/
theorem opcodeIsIllegalExactlyOutsideOneToEight : Obligations.OpcodeIsIllegalExactlyOutsideOneToEight := by
  intro c
  rw [or_setWidth_eq_opWord, decode_opWord, Except.ok.injEq]
  exact decodeOpcode_eq_opIllegal_iff c

end Sys2Proof.Machine

end

section
/-! PROOFS. The CRC-8 as a linear map of its two bytes, its three other forms (untruncated, affine, remainder), and the
operations CRC8 and VERIFY, for the statements about the checksum (spec/40_checksum.md). -/

namespace Sys2Proof.Machine

open Sys2Proof.Claims

/-! ### Sums over the set bits of a word -/

/-- The XOR of `v i` over every `i < k` with `w[i] = 1`: the form that the affine sum and the polynomial product share. -/
def bitSum {n m : Nat} (v : Nat → BitVec m) (w : BitVec n) (k : Nat) : BitVec m :=
  (List.range k).foldl (fun acc i => if w.getLsbD i then acc ^^^ v i else acc) 0#m

theorem affineSum_eq_bitSum (w : Word16) : affineSum w = bitSum (affineTable.getD · 0x00#8) w 16 := rfl

theorem polynomialProduct_eq_bitSum (q : BitVec 16) (p : BitVec 24) :
    polynomialProduct q p = bitSum (p <<< ·) q 16 := rfl

section

variable {n m l : Nat} (v : Nat → BitVec m) (w : BitVec n) (k : Nat)

@[simp] theorem bitSum_zero : bitSum v w 0 = 0#m := rfl

theorem bitSum_succ : bitSum v w (k + 1) = bitSum v w k ^^^ if w.getLsbD k then v k else 0#m := by
  rw [bitSum, List.range_succ, List.foldl_append]
  cases h : w.getLsbD k <;> simp [bitSum, h]

theorem bitSum_congr {v v' : Nat → BitVec m} (h : ∀ i < k, v i = v' i) : bitSum v w k = bitSum v' w k := by
  induction k with
  | zero => rfl
  | succ k ih => rw [bitSum_succ, bitSum_succ, ih fun i hi => h i (by omega), h k (by omega)]

theorem bitSum_xor (x y : BitVec n) : bitSum v (x ^^^ y) k = bitSum v x k ^^^ bitSum v y k := by
  induction k with
  | zero => simp
  | succ k ih =>
    have hbit : (if (x ^^^ y).getLsbD k then v k else 0#m) =
        (if x.getLsbD k then v k else 0#m) ^^^ if y.getLsbD k then v k else 0#m := by
      rw [BitVec.getLsbD_xor]
      cases x.getLsbD k <;> cases y.getLsbD k <;> simp
    rw [bitSum_succ, bitSum_succ, bitSum_succ, ih, hbit]
    ac_rfl

theorem getLsbD_bitSum_twoPow (j : Nat) :
    (bitSum (BitVec.twoPow n) w k).getLsbD j = (decide (j < k) && w.getLsbD j) := by
  induction k with
  | zero => simp
  | succ k ih =>
    rw [bitSum_succ, BitVec.getLsbD_xor, ih]
    obtain rfl | hne := eq_or_ne j k
    · cases hj : w.getLsbD j with
      | false => simp
      | true => simp [BitVec.lt_of_getLsbD hj]
    · have hother : (if w.getLsbD k then BitVec.twoPow n k else 0#n).getLsbD j = false := by
        split <;> simp [BitVec.getLsbD_twoPow, hne.symm]
      rw [hother, Bool.xor_false, decide_eq_decide.2 (show j < k ↔ j < k + 1 by omega)]

/-- A word is the sum of its bits. -/
theorem bitSum_twoPow : bitSum (BitVec.twoPow n) w n = w := by
  apply BitVec.eq_of_getLsbD_eq
  intro j hj
  rw [getLsbD_bitSum_twoPow, decide_eq_true hj, Bool.true_and]

/-! A map that keeps XOR is fixed by its values on the single bits. -/

variable {f : BitVec n → BitVec m} (hf : ∀ x y, f (x ^^^ y) = f x ^^^ f y)

include hf

theorem map_zero_of_xor : f 0#n = 0#m := by
  simpa using hf 0#n 0#n

theorem map_bitSum (u : Nat → BitVec n) (x : BitVec l) : f (bitSum u x k) = bitSum (fun i => f (u i)) x k := by
  induction k with
  | zero => exact map_zero_of_xor hf
  | succ k ih => rw [bitSum_succ, bitSum_succ, hf, ih, apply_ite f, map_zero_of_xor hf]

theorem map_eq_bitSum : f w = bitSum (fun i => f (BitVec.twoPow n i)) w n := by
  rw [← map_bitSum n hf, bitSum_twoPow]

end

/-! ### The shifts of the CRC register -/

theorem crcShifts_add (k l : Nat) (r : Byte) : crcShifts (k + l) r = crcShifts l (crcShifts k r) := by
  induction k generalizing r with
  | zero => rw [Nat.zero_add, crcShifts]
  | succ k ih => rw [Nat.succ_add, crcShifts, crcShifts, ih]

/-- The bit shifted out shows again at bit 0, the constant term of the polynomial, so a shift loses nothing. -/
theorem eq_zero_of_crcShift : ∀ r : Byte, crcShift r = 0#8 → r = 0#8 := by decide

theorem eq_zero_of_crcShifts (k : Nat) (r : Byte) (h : crcShifts k r = 0#8) : r = 0#8 := by
  induction k generalizing r with
  | zero => exact h
  | succ k ih => exact eq_zero_of_crcShift r (ih _ h)

theorem crcShifts_injective (k : Nat) : Function.Injective (crcShifts k) := by
  intro x y h
  rw [← BitVec.xor_eq_zero_iff] at h ⊢
  exact eq_zero_of_crcShifts k _ ((crcShifts_xor k x y).trans h)

/-! ### The checksum of a word is linear in the word, up to a constant -/

/-- The part of the checksum that depends on the data: the high byte is shifted 16 times and the low byte 8 times. -/
def crcLinear (w : Word16) : Byte := crcShifts 16 (hiByte w) ^^^ crcShifts 8 (loByte w)

theorem crc8_eq_crcShifts (a b : Byte) : crc8 a b = crcShifts 16 (0xFF#8 ^^^ a) ^^^ crcShifts 8 b := by
  rw [crc8, crcByte, crcByte, crcShifts_xor, ← crcShifts_add, Config.crcInitial]

theorem crc8_eq_crcLinear (a b : Byte) : crc8 a b = 0x81#8 ^^^ crcLinear (wordOf a b) := by
  have hinit : crcShifts 16 0xFF#8 = 0x81#8 := by decide +kernel
  rw [crc8_eq_crcShifts, crcShifts_xor, hinit, crcLinear, hiByte_wordOf, loByte_wordOf, BitVec.xor_assoc]

theorem crcLinear_xor (x y : Word16) : crcLinear (x ^^^ y) = crcLinear x ^^^ crcLinear y := by
  have hhi : hiByte (x ^^^ y) = hiByte x ^^^ hiByte y := BitVec.extractLsb'_xor
  have hlo : loByte (x ^^^ y) = loByte x ^^^ loByte y := BitVec.extractLsb'_xor
  rw [crcLinear, hhi, hlo, crcShifts_xor, crcShifts_xor, crcLinear, crcLinear]
  ac_rfl

/-- The table of 40_checksum.md R81 lists the checksum's linear part on the single bits. -/
theorem crcLinear_twoPow : ∀ i < 16, crcLinear (BitVec.twoPow 16 i) = affineTable.getD i 0x00#8 := by decide +kernel

theorem affineTable_ne_zero : ∀ i < 16, affineTable.getD i 0x00#8 ≠ 0x00#8 := by decide

theorem crcLinear_eq_affineSum (w : Word16) : crcLinear w = affineSum w := by
  rw [map_eq_bitSum w crcLinear_xor, affineSum_eq_bitSum]
  exact bitSum_congr w 16 crcLinear_twoPow

/-! ### The register that is let grow past 8 bits -/

theorem ofNat_shiftLeft_one (n : Nat) : BitVec.ofNat 8 (n <<< 1) = BitVec.ofNat 8 n <<< 1 := by
  simp [← BitVec.toNat_inj, Nat.shiftLeft_eq]

/-- No bit above bit 7 ever affects bits 7 to 0 (40_checksum.md R80). -/
theorem ofNat_wideShifts (k n : Nat) : BitVec.ofNat 8 (wideShifts k n) = crcShifts k (BitVec.ofNat 8 n) := by
  induction k generalizing n with
  | zero => rfl
  | succ k ih =>
    rw [wideShifts, ih, crcShifts, crcShift, BitVec.getLsbD_ofNat, apply_ite (BitVec.ofNat 8), BitVec.ofNat_xor,
      ofNat_shiftLeft_one]
    rfl

/-! ### The remainder modulo the polynomial -/

theorem polynomialProduct_xor (q q' : BitVec 16) (p : BitVec 24) :
    polynomialProduct (q ^^^ q') p = polynomialProduct q p ^^^ polynomialProduct q' p := bitSum_xor _ 16 q q'

theorem polynomialProduct_zero (p : BitVec 24) : polynomialProduct 0#16 p = 0#24 :=
  map_zero_of_xor (f := (polynomialProduct · p)) fun q q' => polynomialProduct_xor q q' p

theorem polynomialProduct_twoPow : ∀ i < 16, polynomialProduct (BitVec.twoPow 16 i) 0x131#24 = 0x131#24 <<< i := by
  decide

/-- A shift multiplies by x and subtracts the polynomial if the degree has reached 8. -/
theorem shiftLeft_one_eq_crcShift : ∀ r : Byte, (r.setWidth 24 <<< 1 : BitVec 24) =
    (if r.getLsbD 7 then 0x131#24 else 0#24) ^^^ (crcShift r).setWidth 24 := by decide

/-- Shifts leave the remainder of the register times a power of x; a quotient of 16 bits has room for 16 of them. -/
theorem exists_quotient_crcShifts (k : Nat) (hk : k ≤ 16) (r : Byte) : ∃ q : BitVec 16,
    (r.setWidth 24 <<< k : BitVec 24) = polynomialProduct q 0x131#24 ^^^ (crcShifts k r).setWidth 24 := by
  induction k generalizing r with
  | zero => exact ⟨0#16, by rw [polynomialProduct_zero, crcShifts, BitVec.shiftLeft_zero, BitVec.zero_xor]⟩
  | succ k ih =>
    obtain ⟨q, hq⟩ := ih (by omega) (crcShift r)
    refine ⟨(if r.getLsbD 7 then BitVec.twoPow 16 k else 0#16) ^^^ q, ?_⟩
    have hbit : polynomialProduct (if r.getLsbD 7 then BitVec.twoPow 16 k else 0#16) 0x131#24 =
        (if r.getLsbD 7 then 0x131#24 else 0#24) <<< k := by
      split
      · exact polynomialProduct_twoPow k (by omega)
      · rw [polynomialProduct_zero, BitVec.zero_shiftLeft]
    rw [Nat.add_comm, BitVec.shiftLeft_add, shiftLeft_one_eq_crcShift, BitVec.shiftLeft_xor_distrib, hq,
      polynomialProduct_xor, hbit, Nat.add_comm, crcShifts, BitVec.xor_assoc]

theorem setWidth_append_shiftLeft (a b : Byte) : ((a ++ b : Word16).setWidth 24 <<< 8 : BitVec 24) =
    a.setWidth 24 <<< 16 ^^^ b.setWidth 24 <<< 8 := by
  ext i hi
  grind

/-! ### The operations -/

theorem verify_eq_true_iff (a b c : Byte) : verify a b c = true ↔ crc8 a b = c := beq_iff_eq

theorem legalStat_putOk0_eq : ∀ (b : Bool) (v : Byte),
    legalStat (putOk0 v b) = (v &&& 0x7E#8) ||| (if b then 0x01#8 else 0x00#8) := by decide

/-- The corner cases of 40_checksum.md R83, then its example. -/
theorem crc8_examples : crc8 0x00#8 0x00#8 = 0x81#8 ∧ crc8 0xFF#8 0xFF#8 = 0xAC#8 ∧ crc8 0xFF#8 0x00#8 = 0x00#8 ∧
    crc8 0xBE#8 0xEF#8 = 0x92#8 := by decide +kernel

/-! ### The statements -/

/-- Settles O33: the low 8 bits of the grown register are the truncated one at every byte, so also at the end. -/
theorem crc8AgreesWithUntruncatedAlgorithm : Obligations.Crc8AgreesWithUntruncatedAlgorithm := by
  intro a b
  have h : BitVec.ofNat 8 (wideShifts 8 (wideShifts 8 (0xFF ^^^ a.toNat) ^^^ b.toNat)) = crc8 a b := by
    rw [ofNat_wideShifts, BitVec.ofNat_xor, ofNat_wideShifts, BitVec.ofNat_xor, BitVec.ofNat_toNat, BitVec.ofNat_toNat,
      BitVec.setWidth_eq, BitVec.setWidth_eq]
    rfl
  rw [← h, BitVec.toNat_ofNat]
  rfl

/-- Settles O34: the checksum is a constant plus a linear map, which its values on the single bits fix. -/
theorem crc8AffineForm : Obligations.Crc8AffineForm := by
  intro a b
  rw [crc8_eq_crcLinear, crcLinear_eq_affineSum, wordOf]

/-- Settles O35: the first byte's register is shifted 16 times and the second byte 8 times, each leaving a remainder, and the
two quotients add up. -/
theorem crc8IsRemainderModuloPolynomial : Obligations.Crc8IsRemainderModuloPolynomial := by
  intro a b
  obtain ⟨qa, ha⟩ := exists_quotient_crcShifts 16 (by omega) (0xFF#8 ^^^ a)
  obtain ⟨qb, hb⟩ := exists_quotient_crcShifts 8 (by omega) b
  have hword : (a ++ b : Word16) ^^^ 0xFF00#16 = (0xFF#8 ^^^ a) ++ b := by
    rw [show 0xFF00#16 = 0xFF#8 ++ 0x00#8 from rfl, BitVec.xor_append, BitVec.xor_comm a, BitVec.xor_zero]
  refine ⟨qa ^^^ qb, ?_⟩
  rw [hword, setWidth_append_shiftLeft, ha, hb, polynomialProduct_xor, crc8_eq_crcShifts, BitVec.setWidth_xor]
  ac_rfl

/-- Settles O36: a shift loses nothing, which gives the bijection; a flipped bit adds its table entry, which is not 0. -/
theorem crc8DetectsEverySingleBitFlip : Obligations.Crc8DetectsEverySingleBitFlip := by
  refine ⟨fun a => ?bijection, fun w i hi => ?flip⟩
  case bijection =>
    have hinj : Function.Injective (crc8 a) := by
      intro b b' h
      rw [crc8_eq_crcShifts, crc8_eq_crcShifts, BitVec.xor_right_inj] at h
      exact crcShifts_injective 8 h
    exact ⟨hinj, Finite.surjective_of_injective hinj⟩
  case flip =>
    have hbit : crcLinear (1#16 <<< i) ≠ 0#8 := by
      rw [← BitVec.twoPow_eq, crcLinear_twoPow i hi]
      exact affineTable_ne_zero i hi
    rw [crc8_eq_crcLinear, crc8_eq_crcLinear, wordOf_hiByte_loByte, wordOf_hiByte_loByte, crcLinear_xor]
    simpa using hbit

/-- Settles O19: CRC8 ends in the common STAT of a legal operation. -/
theorem crc8ComputesChecksumOfGroup0 : Obligations.Crc8ComputesChecksumOfGroup0 := by
  refine ⟨decode_opWord 0x01#8, fun s => ?_, crc8_examples⟩
  rw [← legalStat_eq]
  rfl

/-- Settles O20: VERIFY's new OK0 is the function `verify` of group 0, put into the common STAT of a legal operation. -/
theorem verifyChecksGroup0 : Obligations.VerifyChecksGroup0 := by
  obtain ⟨-, -, hzero, hexample⟩ := crc8_examples
  refine ⟨decode_opWord 0x02#8, fun s => ?next, fun s t h => ?bits, hzero, hexample⟩
  case next =>
    have h := legalStat_putOk0_eq (verify s.regs.din0 s.regs.din1 s.regs.din2) s.regs.stat
    simp only [verify_eq_true_iff] at h
    rw [← h]
    rfl
  case bits =>
    obtain ⟨hregs, -, -⟩ := exec_next h
    rw [hregs, regsAfter_ok0_eq_verify rfl, verify_eq_true_iff, eq_comm]
    exact ⟨Iff.rfl, regsAfter_ok1 rfl rfl _, regsAfter_ill rfl _⟩

/-- Settles O37: `verify` is the comparison with the checksum. -/
theorem verifyAcceptsExactlyTheChecksum : Obligations.VerifyAcceptsExactlyTheChecksum :=
  ⟨verify_eq_true_iff, fun a b => (verify_eq_true_iff a b _).2 rfl⟩

end Sys2Proof.Machine

end

section
/-! PROOFS. The status decoder flag by flag, the words and bytes it identifies, and the operation DECODE, for the statements
about the status word (spec/41_status_decode.md). -/

namespace Sys2Proof.Machine

open Sys2Proof.Claims

/-! ### The decoder flag by flag -/

/-- Each flag of a decoded status word is its own bit of the word (41_status_decode.md R91). -/
@[simp] theorem getLsbD_statusDecode (f : StatusFlag) (w : Word16) :
    (statusDecode w).getLsbD f.flagsBit = w.getLsbD f.wordBit := by
  simp only [statusDecode, BitVec.getLsbD_or, getLsbD_statusBit]
  cases f <;> simp [StatusFlag.flagsBit, StatusFlag.wordBit]

theorem exists_flagsBit_eq {j : Nat} (hj : j < 7) : ∃ f : StatusFlag, f.flagsBit = j := by
  interval_cases j
  exacts [⟨.writeChecksumFailed, rfl⟩, ⟨.lastCommandFailed, rfl⟩, ⟨.systemResetDetected, rfl⟩,
    ⟨.temperatureTrackingAlert, rfl⟩, ⟨.humidityTrackingAlert, rfl⟩, ⟨.heaterOn, rfl⟩, ⟨.alertPending, rfl⟩]

theorem statusDecode_congr {w w' : Word16} (h : ∀ f : StatusFlag, w.getLsbD f.wordBit = w'.getLsbD f.wordBit) :
    statusDecode w = statusDecode w' := by
  apply BitVec.eq_of_getLsbD_eq
  intro j hj
  obtain hlt | rfl : j < 7 ∨ j = 7 := by omega
  · obtain ⟨f, rfl⟩ := exists_flagsBit_eq hlt
    rw [getLsbD_statusDecode, getLsbD_statusDecode, h]
  · rw [statusDecode_bit7, statusDecode_bit7]

theorem toNat_eq_sum_flags : ∀ v : Byte, v.getLsbD 7 = false → v.toNat =
    64 * (v.getLsbD StatusFlag.alertPending.flagsBit).toNat + 32 * (v.getLsbD StatusFlag.heaterOn.flagsBit).toNat +
    16 * (v.getLsbD StatusFlag.humidityTrackingAlert.flagsBit).toNat +
    8 * (v.getLsbD StatusFlag.temperatureTrackingAlert.flagsBit).toNat +
    4 * (v.getLsbD StatusFlag.systemResetDetected.flagsBit).toNat +
    2 * (v.getLsbD StatusFlag.lastCommandFailed.flagsBit).toNat +
    (v.getLsbD StatusFlag.writeChecksumFailed.flagsBit).toNat := by decide

/-! ### The mask of the flags' bits -/

theorem getLsbD_mask_wordBit (f : StatusFlag) : (0xAC13#16).getLsbD f.wordBit = true := by
  cases f <;> rfl

theorem bit_cases_of_mask : ∀ i < 16, (0xAC13#16).getLsbD i = true →
    i = 0 ∨ i = 1 ∨ i = 4 ∨ i = 10 ∨ i = 11 ∨ i = 13 ∨ i = 15 := by decide

theorem exists_wordBit_eq {i : Nat} (hi : (0xAC13#16).getLsbD i = true) : ∃ f : StatusFlag, f.wordBit = i := by
  obtain rfl | rfl | rfl | rfl | rfl | rfl | rfl := bit_cases_of_mask i (BitVec.lt_of_getLsbD hi) hi
  exacts [⟨.writeChecksumFailed, rfl⟩, ⟨.lastCommandFailed, rfl⟩, ⟨.systemResetDetected, rfl⟩,
    ⟨.temperatureTrackingAlert, rfl⟩, ⟨.humidityTrackingAlert, rfl⟩, ⟨.heaterOn, rfl⟩, ⟨.alertPending, rfl⟩]

/-- Two words decode alike exactly when they agree outside the ignored bits (41_status_decode.md R91). -/
theorem statusDecode_eq_iff (w w' : Word16) :
    statusDecode w = statusDecode w' ↔ w &&& 0xAC13#16 = w' &&& 0xAC13#16 := by
  constructor
  · intro h
    apply BitVec.eq_of_getLsbD_eq
    intro i _
    rw [BitVec.getLsbD_and, BitVec.getLsbD_and]
    cases hi : (0xAC13#16).getLsbD i with
    | false => rw [Bool.and_false, Bool.and_false]
    | true =>
      obtain ⟨f, rfl⟩ := exists_wordBit_eq hi
      rw [← getLsbD_statusDecode, h, getLsbD_statusDecode]
  · intro h
    refine statusDecode_congr fun f => ?_
    simpa [getLsbD_mask_wordBit] using congrArg (·.getLsbD f.wordBit) h

theorem and_eq_self_of_and_not_eq_zero {w m : Word16} (h : w &&& ~~~m = 0) : w &&& m = w := by
  calc w &&& m = (w &&& m) ||| (w &&& ~~~m) := by rw [h]; exact BitVec.or_zero.symm
    _ = w := by ext i hi; cases hm : m[i] <;> simp [hm]

/-- The status word whose flags are the bits 6 to 0 of `v` and whose ignored bits are 0. -/
def statusEncode (v : Byte) : Word16 :=
  let x := v.setWidth 16
  (x &&& 0x40#16) <<< 9 ||| (x &&& 0x20#16) <<< 8 ||| (x &&& 0x18#16) <<< 7 ||| (x &&& 0x04#16) <<< 2 ||| (x &&& 0x03#16)

/-- The encoder is the decoder's inverse on the bytes 0x00 to 0x7F (41_status_decode.md R91). -/
theorem statusDecode_statusEncode : ∀ v : Byte, v.toNat ≤ 0x7F → statusDecode (statusEncode v) = v := by decide

theorem statusEncode_and_ignored : ∀ v : Byte, statusEncode v &&& ~~~0xAC13#16 = 0 := by decide

/-! ### The operation -/

/-- The four upper flags come from DIN0 and the three lower from DIN1 (41_status_decode.md R93, 30_encoding.md R67). -/
theorem statusFlag_of_exec_decode {s t : State} (h : exec .decode s = .next t) (f : StatusFlag) :
    t.regs.statusFlag f =
      if f.wordBit < 8 then s.regs.din1.getLsbD f.wordBit else s.regs.din0.getLsbD (f.wordBit - 8) := by
  obtain ⟨hregs, -, -⟩ := exec_next h
  rw [hregs, ← getLsbD_wordOf]
  exact getLsbD_statusDecode f _

/-! ### The statements -/

/-- Settles O38: the flags give the weighted sum, and the words that decode alike are those that agree under the mask. -/
theorem statusDecodeIsTheProjection : Obligations.StatusDecodeIsTheProjection := by
  refine ⟨fun w => ?sum, statusDecode_bit7, fun w => ?mask, fun w w' hw hw' h => ?injective, fun v hv => ?surjective⟩
  case sum =>
    rw [toNat_eq_sum_flags _ (statusDecode_bit7 w)]
    simp only [getLsbD_statusDecode]
    rfl
  case mask => rw [statusDecode_eq_iff, BitVec.and_assoc, BitVec.and_self]
  case injective =>
    rw [statusDecode_eq_iff] at h
    rwa [and_eq_self_of_and_not_eq_zero hw, and_eq_self_of_and_not_eq_zero hw'] at h
  case surjective => exact ⟨statusEncode v, statusEncode_and_ignored v, statusDecode_statusEncode v hv⟩

/-- Settles O39: a flag is its own bit of the word, and a flip of bit `i` changes that bit exactly when it is bit `i`. -/
theorem statusFlagsAreUncoupled : Obligations.StatusFlagsAreUncoupled := by
  intro f w i hi
  rw [getLsbD_statusDecode, getLsbD_statusDecode, BitVec.getLsbD_xor, ← BitVec.twoPow_eq, BitVec.getLsbD_twoPow]
  exact ⟨fun hne => by simp [hne], fun heq => by simp [hi, ← heq]⟩

/-- Settles O21: DECODE ends in the common STAT of a legal operation, and each flag is a bit of DIN0 or DIN1. -/
theorem decodeWritesWordAndFlags : Obligations.DecodeWritesWordAndFlags := by
  refine ⟨decode_opWord 0x03#8, fun s => ?next, fun s t h => ?flags, by decide⟩
  case next =>
    rw [← legalStat_eq]
    rfl
  case flags =>
    have hflag := statusFlag_of_exec_decode h
    exact ⟨⟨hflag .alertPending, hflag .heaterOn, hflag .humidityTrackingAlert, hflag .temperatureTrackingAlert⟩,
      hflag .systemResetDetected, hflag .lastCommandFailed, hflag .writeChecksumFailed⟩

end Sys2Proof.Machine

end

section
/-! PROOFS. The integer forms of the conversions, their rounding, their fit in a 32-bit datapath, their ranges and steps, and
the operations CONVC, CONVF and CONVRH, for the statements about the conversions (spec/42_conversion.md). -/

namespace Sys2Proof.Machine

open Sys2Proof.Claims

/-! ### The integer forms -/

/-- The integer offset commutes with the rounding (42_conversion.md R103). -/
theorem centiUnits_eq_ediv (f : Config.Transfer) (r : Word16) :
    centiUnits f r = (200 * f.span * (r.toNat : Int) + 65535) / 131070 + 100 * f.offset := by
  have hnum : 2 * centiNumerator f r + Config.fullScale =
      200 * f.span * (r.toNat : Int) + 65535 + 100 * f.offset * 131070 := by
    simp only [centiNumerator, Config.fullScale]
    ring
  calc centiUnits f r = (2 * centiNumerator f r + Config.fullScale) / 131070 := rfl
    _ = (200 * f.span * (r.toNat : Int) + 65535) / 131070 + 100 * f.offset := by
      rw [hnum, Int.add_mul_ediv_right _ _ (by decide)]

theorem celsius_eq_celsiusForm (r : Word16) : celsius r = celsiusForm r.toNat :=
  centiUnits_eq_ediv Config.celsiusTransfer r

theorem fahrenheit_eq_fahrenheitForm (r : Word16) : fahrenheit r = fahrenheitForm r.toNat :=
  centiUnits_eq_ediv Config.fahrenheitTransfer r

theorem humidity_eq_humidityForm (r : Word16) : humidity r = humidityForm r.toNat :=
  (centiUnits_eq_ediv Config.humidityTransfer r).trans (Int.add_zero _)

theorem toNat_wordOf_eq_rawCount (hi lo : Byte) : ((wordOf hi lo).toNat : Int) = rawCount hi lo := by
  rw [wordOf_toNat, rawCount]
  push_cast
  rfl

/-! ### Monotonicity and steps -/

theorem centiUnits_mono {f : Config.Transfer} (hspan : 0 ≤ f.span) {r r' : Word16} (h : r.toNat ≤ r'.toNat) :
    centiUnits f r ≤ centiUnits f r' := by
  have hmul : 200 * f.span * (r.toNat : Int) ≤ 200 * f.span * (r'.toNat : Int) :=
    mul_le_mul_of_nonneg_left (by exact_mod_cast h) (by omega)
  rw [centiUnits_eq_ediv, centiUnits_eq_ediv]
  omega

/-- A span of at most 655 units moves the value by at most one centi-unit a count (42_conversion.md R110). -/
theorem centiUnits_succ_le {f : Config.Transfer} (hspan : f.span ≤ 655) {r r' : Word16} (h : r'.toNat = r.toNat + 1) :
    centiUnits f r' ≤ centiUnits f r + 1 := by
  have hmul : 200 * f.span * (r'.toNat : Int) = 200 * f.span * (r.toNat : Int) + 200 * f.span := by
    rw [h]
    push_cast
    ring
  rw [centiUnits_eq_ediv, centiUnits_eq_ediv]
  omega

/-! ### Rounding to nearest -/

/-- The formula of 42_conversion.md R102 gives the nearest integer of every rational that has one. -/
theorem roundNearest_eq_of_nearest {n d v : Int} (hd : 0 < d) (hlo : -d < 2 * (d * v - n)) (hhi : 2 * (d * v - n) < d) :
    roundNearest n d = v := by
  rw [roundNearest, Int.ediv_eq_iff_of_pos (by omega)]
  constructor <;> linarith

/-- An odd multiple of `m`, such as twice the distance to a half-integer, is no closer to 0 than `m`. -/
theorem le_abs_of_eq_mul_odd {m x j : Int} (hm : 0 ≤ m) (hx : x = m * (2 * j + 1)) : m ≤ |x| := by
  have hodd : 1 ≤ |2 * j + 1| := Int.one_le_abs (by omega)
  calc m = m * 1 := (mul_one m).symm
    _ ≤ m * |2 * j + 1| := mul_le_mul_of_nonneg_left hodd hm
    _ = |x| := by rw [hx, abs_mul, abs_of_nonneg hm]

/-! ### The 32-bit datapath -/

/-- The quotient of an integer form in unsigned 32-bit arithmetic, with the multiplier `c` (42_conversion.md R106). -/
def quotient32 (c : BitVec 32) (r : Word16) : BitVec 32 := (c * r.setWidth 32 + 65535#32) / 131070#32

/-- No intermediate value overflows when the numerator of the largest count fits (42_conversion.md R106). -/
theorem toNat_quotient32 {c : BitVec 32} (hc : c.toNat * 65535 + 65535 < 2 ^ 32) (r : Word16) :
    (quotient32 c r).toNat = (c.toNat * r.toNat + 65535) / 131070 := by
  have hr : r.toNat ≤ 65535 := Nat.le_of_lt_succ r.isLt
  have hmul : c.toNat * r.toNat ≤ c.toNat * 65535 := Nat.mul_le_mul_left _ hr
  have hset : (r.setWidth 32).toNat = r.toNat := BitVec.toNat_setWidth_of_le (by decide)
  have hprod : (c * r.setWidth 32).toNat = c.toNat * r.toNat := by
    rw [BitVec.toNat_mul, hset, Nat.mod_eq_of_lt (by omega)]
  have hsum : (c * r.setWidth 32 + 65535#32).toNat = c.toNat * r.toNat + 65535 := by
    have hconst : (65535#32).toNat = 65535 := rfl
    rw [BitVec.toNat_add, hprod, hconst, Nat.mod_eq_of_lt (by omega)]
  rw [quotient32, BitVec.toNat_udiv, hsum]
  rfl

/-- The quotient never passes half of an even multiplier, its value at the largest count (42_conversion.md R106). -/
theorem toNat_quotient32_le {c : BitVec 32} {q : Nat} (hc : c.toNat * 65535 + 65535 < 2 ^ 32) (hq : c.toNat = 2 * q)
    (r : Word16) : (quotient32 c r).toNat ≤ q := by
  have hmul : q * r.toNat ≤ q * 65535 := Nat.mul_le_mul_left _ (Nat.le_of_lt_succ r.isLt)
  rw [toNat_quotient32 hc, hq, mul_assoc]
  omega

theorem centiUnits_eq_quotient32 {f : Config.Transfer} {c : BitVec 32} (hc : c.toNat * 65535 + 65535 < 2 ^ 32)
    (hspan : (c.toNat : Int) = 200 * f.span) (r : Word16) :
    centiUnits f r = ((quotient32 c r).toNat : Int) + 100 * f.offset := by
  rw [centiUnits_eq_ediv, toNat_quotient32 hc, ← hspan]
  push_cast
  rfl

/-! ### The statements -/

/-- Settles O41: the three forms are one lemma about transfer functions. -/
theorem conversionsHaveTheirIntegerForms : Obligations.ConversionsHaveTheirIntegerForms := by
  refine ⟨fun r => ⟨celsius_eq_celsiusForm r, fahrenheit_eq_fahrenheitForm r, humidity_eq_humidityForm r⟩, by decide,
    by decide, fun r hr => ?below⟩
  case below =>
    obtain h | h : r.toNat = 0 ∨ r.toNat = 1 := by omega
    · obtain rfl : r = 0#16 := BitVec.eq_of_toNat_eq h
      rfl
    · obtain rfl : r = 1#16 := BitVec.eq_of_toNat_eq h
      rfl

/-- Settles O43: a transfer function is monotone for its span is positive, and its steps are small for its span is. -/
theorem conversionRangesAndSteps : Obligations.ConversionRangesAndSteps := by
  refine ⟨fun r => ⟨celsius_range r, fahrenheit_range r, humidity_range r⟩, by decide, fun r r' h => ?mono,
    fun r r' h => ?step⟩
  case mono =>
    exact ⟨centiUnits_mono (f := Config.celsiusTransfer) (by decide) h,
      centiUnits_mono (f := Config.fahrenheitTransfer) (by decide) h,
      centiUnits_mono (f := Config.humidityTransfer) (by decide) h⟩
  case step =>
    exact ⟨centiUnits_succ_le (f := Config.celsiusTransfer) (by decide) h,
      centiUnits_succ_le (f := Config.fahrenheitTransfer) (by decide) h,
      centiUnits_succ_le (f := Config.humidityTransfer) (by decide) h⟩

/-- Settles O40: over the odd divisor 65535 twice the distance to a half-integer is an odd multiple of 5 or 15, so it is not
0. The counts that come closest are 12652, 698 and 9034. -/
theorem conversionsRoundToNearest : Obligations.ConversionsRoundToNearest := by
  refine ⟨fun r => ?nearest, fun _ _ _ => roundNearest_eq_of_nearest, fun r k => ⟨?celsius, ?fahrenheit, ?humidity⟩,
    ⟨12652#16, -1122, by decide⟩, ⟨698#16, -4565, by decide⟩, ⟨9034#16, 1378, by decide⟩⟩
  case nearest =>
    have hnum : centiNumerator Config.humidityTransfer r = 100 * (100 * (r.toNat : Int)) := by
      simp [centiNumerator, Config.humidityTransfer]
    exact ⟨roundNearest_nearest (centiNumerator Config.celsiusTransfer r),
      roundNearest_nearest (centiNumerator Config.fahrenheitTransfer r), hnum ▸ roundNearest_nearest _⟩
  case celsius =>
    exact le_abs_of_eq_mul_odd (j := 3500 * (r.toNat : Int) - 13107 * (4500 + k) - 6554) (by decide) (by ring)
  case fahrenheit =>
    exact le_abs_of_eq_mul_odd (j := 2100 * (r.toNat : Int) - 4369 * (4900 + k) - 2185) (by decide) (by ring)
  case humidity =>
    exact le_abs_of_eq_mul_odd (j := 2000 * (r.toNat : Int) - 13107 * k - 6554) (by decide) (by ring)

/-- Settles O42: the three quotients are one lemma about the datapath, for the multipliers 35000, 63000 and 20000. -/
theorem conversionsFitA32BitDatapath : Obligations.ConversionsFitA32BitDatapath := by
  refine ⟨fun r => ?same, by decide, by decide, by decide, by decide, fun r => ?quotients, fun r v hv => ?results⟩
  case same =>
    exact ⟨centiUnits_eq_quotient32 (f := Config.celsiusTransfer) (by decide) rfl r,
      centiUnits_eq_quotient32 (f := Config.fahrenheitTransfer) (by decide) rfl r,
      (centiUnits_eq_quotient32 (f := Config.humidityTransfer) (by decide) rfl r).trans (Int.add_zero _)⟩
  case quotients =>
    exact ⟨toNat_quotient32_le (by decide) rfl r, toNat_quotient32_le (by decide) rfl r,
      toNat_quotient32_le (by decide) rfl r⟩
  case results =>
    have hc := celsius_range r
    have hf := fahrenheit_range r
    have hh := humidity_range r
    simp only [List.mem_cons, List.not_mem_nil, or_false] at hv
    obtain ⟨hlo, hhi⟩ : -4900 ≤ v ∧ v ≤ 26600 := by omega
    exact ⟨hlo, hhi, enc16_toInt (by omega) (by omega)⟩

/-- Settles O22: the count is group 0's word, taken in the integer form. -/
theorem convcConvertsGroup0ToCelsius : Obligations.ConvcConvertsGroup0ToCelsius := by
  refine ⟨decode_opWord 0x04#8, fun s => ?next, by decide, by decide, by decide, by decide, by decide, by decide,
    by decide, fun r hlo _ => ?positive, by decide⟩
  case next =>
    rw [← toNat_wordOf_eq_rawCount, ← celsius_eq_celsiusForm, ← legalStat_eq]
    rfl
  case positive =>
    rw [celsiusForm]
    omega

/-- Settles O23: the count is group 0's word, taken in the integer form. -/
theorem convfConvertsGroup0ToFahrenheit : Obligations.ConvfConvertsGroup0ToFahrenheit := by
  refine ⟨decode_opWord 0x05#8, fun s => ?next, by decide⟩
  rw [← toNat_wordOf_eq_rawCount, ← fahrenheit_eq_fahrenheitForm, ← legalStat_eq]
  rfl

/-- Settles O24: the count is group 0's word, taken in the integer form. -/
theorem convrhConvertsGroup0ToHumidity : Obligations.ConvrhConvertsGroup0ToHumidity := by
  refine ⟨decode_opWord 0x06#8, fun s => ?next, by decide⟩
  rw [← toNat_wordOf_eq_rawCount, ← humidity_eq_humidityForm, ← legalStat_eq]
  rfl

end Sys2Proof.Machine

end

section
/-! PROOFS. The checksum outcomes that a frame operation reports in STAT, what its results depend on, and the operations STATFRM
and MEASFRM, for the statements about frames (spec/43_frames.md). -/

namespace Sys2Proof.Machine

open Sys2Proof.Claims

/-! ### The reported checksum outcomes -/

theorem legalStat_putOk1_putOk0_eq (b c : Bool) (v : Byte) : legalStat (putOk1 (putOk0 v b) c) =
    (v &&& 0x7C#8) ||| (if b then 0x01#8 else 0x00#8) ||| (if c then 0x02#8 else 0x00#8) := by
  revert b c v
  decide

theorem regsAfter_ok0_iff {i : Instr} (hok : writesOk0 i = true) (r : Regs) :
    (regsAfter i r).ok0 = true ↔ r.din2 = crc8 r.din0 r.din1 := by
  rw [regsAfter_ok0_eq_verify hok, verify_eq_true_iff, eq_comm]

theorem regsAfter_ok1_iff {i : Instr} (hok : writesOk1 i = true) (r : Regs) :
    (regsAfter i r).ok1 = true ↔ r.din5 = crc8 r.din3 r.din4 := by
  rw [regsAfter_ok1_eq_verify hok, verify_eq_true_iff, eq_comm]

/-! ### The operations -/

/-- The STAT byte of 43_frames.md R120 as a mask and the outcome of group 0. -/
theorem opStatfrm_stat_eq (r : Regs) : (opStatfrm r).stat =
    (r.stat &&& 0x7E#8) ||| (if crc8 r.din0 r.din1 = r.din2 then 0x01#8 else 0x00#8) := by
  simp only [opStatfrm_stat, legalStat_putOk0_eq, verify_eq_true_iff]

/-- The STAT byte of 43_frames.md R121 as a mask and the outcomes of the two groups. -/
theorem opMeasfrm_stat_eq (r : Regs) : (opMeasfrm r).stat =
    (r.stat &&& 0x7C#8) ||| (if crc8 r.din0 r.din1 = r.din2 then 0x01#8 else 0x00#8) |||
      (if crc8 r.din3 r.din4 = r.din5 then 0x02#8 else 0x00#8) := by
  simp only [opMeasfrm_stat, legalStat_putOk1_putOk0_eq, verify_eq_true_iff]

/-! ### The statements -/

/-- Settles O25: FLAGS is the decoded word on either outcome, and STAT alone depends on the received checksum byte. -/
theorem statfrmProcessesStatusFrame : Obligations.StatfrmProcessesStatusFrame := by
  refine ⟨decode_opWord 0x07#8, fun s => ?_, by decide +kernel⟩
  rw [← opStatfrm_stat_eq]
  rfl

/-- Settles O26: each count is its own group's word, taken in the integer form, and each OK bit its own group's outcome. -/
theorem measfrmProcessesMeasurementFrame : Obligations.MeasfrmProcessesMeasurementFrame := by
  refine ⟨decode_opWord 0x08#8, fun s => ?_, by decide +kernel⟩
  rw [← toNat_wordOf_eq_rawCount, ← toNat_wordOf_eq_rawCount, ← celsius_eq_celsiusForm, ← fahrenheit_eq_fahrenheitForm,
    ← humidity_eq_humidityForm, ← opMeasfrm_stat_eq]
  rfl

/-- Settles O31: the results of a frame operation are functions of the data bytes, and an OK bit is the comparison of the
received byte with the checksum that the operation writes. -/
theorem checksumOutcomeNeverGatesResults : Obligations.ChecksumOutcomeNeverGatesResults := by
  refine ⟨fun s s' t t' hdata h h' => ?statfrm, fun s s' t t' hdata h h' => ?measfrm, fun s t h => ?measfrmOk,
    fun s t h => ?statfrmOk⟩
  case statfrm =>
    obtain ⟨h0, h1, -, -⟩ := hdata
    obtain ⟨hregs, -, -⟩ := exec_next h
    obtain ⟨hregs', -, -⟩ := exec_next h'
    simp [hregs, hregs', regsAfter, h0, h1]
  case measfrm =>
    obtain ⟨h0, h1, h3, h4⟩ := hdata
    obtain ⟨hregs, -, -⟩ := exec_next h
    obtain ⟨hregs', -, -⟩ := exec_next h'
    simp [hregs, hregs', regsAfter, h0, h1, h3, h4]
  case measfrmOk =>
    obtain ⟨hregs, -, -⟩ := exec_next h
    rw [hregs]
    exact ⟨regsAfter_ok0_iff rfl _, regsAfter_ok1_iff rfl _⟩
  case statfrmOk =>
    obtain ⟨hregs, -, -⟩ := exec_next h
    rw [hregs]
    exact regsAfter_ok0_iff rfl _

end Sys2Proof.Machine

end

section
/-! PROOFS. What an illegal opcode does to the registers and how long ILL stays set after it, for the statement about the
exception (spec/60_exceptions.md). -/

namespace Sys2Proof.Machine

/-! ### ILL after a reset and after an illegal opcode -/

theorem reset_ill : Regs.reset.ill = false := by decide

/-- OP_ILLEGAL raises the condition and does nothing else (60_exceptions.md R141). -/
theorem exec_opIllegal (c : Byte) (s : State) :
    exec (.opIllegal c) s = .next { s with regs := raiseIllegal s.regs } := rfl

/-- Once ILL is set, a transaction that a word spells keeps it set unless it is a legal operation: an OP write decides ILL
afresh, and any other access leaves STAT alone (60_exceptions.md R141, R144). -/
theorem regsAfter_ill_of_ill {i : Instr} (hw : i.wellFormed = true) {r : Regs} (hill : r.ill = true) :
    (regsAfter i r).ill = !i.isOperation := by
  cases hop : i.isOpWrite with
  | true => exact regsAfter_ill hop r
  | false =>
    have hoperation : i.isOperation = false :=
      Bool.eq_false_iff.2 (mt isOpWrite_of_isOperation (Bool.eq_false_iff.1 hop))
    obtain ⟨-, -, hsame⟩ := statFields_congr (regsAfter_sameResults hw hop r).stat
    rw [hsame, hill, hoperation]
    rfl

/-! ### The statement -/

/-- Settles O27: the word is the OP write of the code, OP_ILLEGAL sets bit 7 of STAT alone, and from then on only a legal
operation or a reset clears it. -/
theorem illegalOpcodeSetsIllOnly : Obligations.IllegalOpcodeSetsIllOnly := by
  refine ⟨fun c hc => ?decodes, fun c s _ => ?effect, fun i s t hw h hill => ?stays, fun s rest hp => ?reset,
    fun i s _ => ⟨_, exec_eq i s⟩⟩
  case decodes => rw [or_setWidth_eq_opWord, decode_opWord, decodeOpcode_of_illegal c hc]
  case effect => rw [exec_opIllegal, raiseIllegal_eq]
  case stays =>
    obtain ⟨hregs, -, -⟩ := exec_next h
    rw [hregs, regsAfter_ill_of_ill hw hill, Bool.not_eq_false']
  case reset => exact ⟨_, step_hostReset hp, reset_ill⟩

end Sys2Proof.Machine

end

section
/-! PROOFS. What a reset does, why no transaction resets the block, the order of DIN writes, and the end of every run of real
actions, for the statements about resets and hazards (spec/70_reset_and_hazards.md). -/

namespace Sys2Proof.Machine

/-! ### The reset values -/

theorem reset_ok0 : Regs.reset.ok0 = false := by decide

theorem reset_ok1 : Regs.reset.ok1 = false := by decide

/-! ### No transaction resets the block -/

theorem decodeOpcode_isOpWrite : ∀ c : Byte, (decodeOpcode c).isOpWrite = true := by decide

/-- A port write reaches at most one of DIN0 and DIN1 (20_memory.md R44). -/
theorem portWrite_din0_or_din1 (r : Regs) (a v : Byte) :
    (portWrite r a v).din0 = r.din0 ∨ (portWrite r a v).din1 = r.din1 := by
  unfold portWrite
  cases locate a with
  | din0 => exact .inr rfl
  | op =>
    obtain ⟨hdin0, -⟩ := regsAfter_din (decodeOpcode_isOpWrite v) r
    exact .inl (by rwa [regsAfter_decodeOpcode] at hdin0)
  | _ => exact .inl rfl

/-- An instruction changes at most one of DIN0 and DIN1, well formed or not. -/
theorem regsAfter_din0_or_din1 (i : Instr) (r : Regs) :
    (regsAfter i r).din0 = r.din0 ∨ (regsAfter i r).din1 = r.din1 := by
  cases i with
  | wr a d => exact portWrite_din0_or_din1 r a d
  | _ => exact .inl rfl

/-! ### The order of DIN writes -/

theorem word16_ext {v w : Word16} (hhi : hiByte v = hiByte w) (hlo : loByte v = loByte w) : v = w := by
  rw [← wordOf_hiByte_loByte v, hhi, hlo, wordOf_hiByte_loByte]

/-- The port shows every register in full, so register files that read alike are equal (10_state.md R20, R30). -/
theorem regs_ext_portRead {r r' : Regs} (h : ∀ a, portRead r a = portRead r' a) : r = r' := by
  obtain ⟨⟩ := r
  obtain ⟨⟩ := r'
  congr
  · exact h 0x00#8
  · exact h 0x01#8
  · exact h 0x02#8
  · exact h 0x03#8
  · exact h 0x04#8
  · exact h 0x05#8
  · exact h 0x07#8
  · exact h 0x08#8
  · exact h 0x09#8
  · exact word16_ext (h 0x0A#8) (h 0x0B#8)
  · exact word16_ext (h 0x0C#8) (h 0x0D#8)
  · exact h 0x0E#8
  · exact word16_ext (h 0x10#8) (h 0x11#8)
  · exact word16_ext (h 0x12#8) (h 0x13#8)
  · exact word16_ext (h 0x14#8) (h 0x15#8)

/-- In either order, each of the two addresses reads what was written to it and the others read as before. -/
theorem portWrite_din_comm {a b : Byte} (hab : a ≠ b) (ha : a.toNat ≤ 5) (hb : b.toNat ≤ 5) (r : Regs) (x y : Byte) :
    portWrite (portWrite r a x) b y = portWrite (portWrite r b y) a x := by
  refine regs_ext_portRead fun c => ?_
  simp only [portRead_portWrite_din ha, portRead_portWrite_din hb]
  by_cases hca : c = a
  · rw [if_pos hca, if_pos hca, if_neg (hca ▸ hab)]
  · rw [if_neg hca, if_neg hca]

/-! ### Runs of real actions -/

theorem bytesReturned_length_le_one (i : Instr) (r : Regs) : (bytesReturned i r).length ≤ 1 := by
  cases i with
  | rd => exact Nat.le_refl 1
  | _ => exact Nat.zero_le 1

/-- A step keeps the bytes already given to the host and adds at most one (70_reset_and_hazards.md R167). -/
theorem step_returned {s t : State} (h : step s = .next t) :
    ∃ out, t.returned = s.returned ++ out ∧ out.length ≤ 1 := by
  obtain ⟨_, -, rfl⟩ | ⟨_, _, i, -, -, rfl⟩ := step_next h
  · exact ⟨[], (List.append_nil _).symm, Nat.zero_le 1⟩
  · exact ⟨_, rfl, bytesReturned_length_le_one i s.regs⟩

/-- A plan of real actions is carried out to its end, one action a step. -/
theorem run_of_real {plan : List HostAction} (hreal : plan.all HostAction.real = true) {s : State}
    (hp : s.pending = plan) :
    ∃ t out, core.run plan.length s = .next t ∧ t.pending = [] ∧ t.returned = s.returned ++ out ∧
      out.length ≤ plan.length := by
  induction plan generalizing s with
  | nil => exact ⟨s, [], run_zero s, hp, (List.append_nil _).symm, Nat.le_refl 0⟩
  | cons a rest ih =>
    rw [List.all_cons, Bool.and_eq_true] at hreal
    obtain ⟨ha, hrest⟩ := hreal
    obtain ⟨u, hstep, hpu⟩ := step_of_real hp ha
    obtain ⟨out, hout, hlen⟩ := step_returned hstep
    obtain ⟨t, out', hrun, ht, hout', hlen'⟩ := ih hrest hpu
    refine ⟨t, out ++ out', (run_succ _ hstep).trans hrun, ht, ?_, ?_⟩
    · rw [hout', hout, List.append_assoc]
    · rw [List.length_append, List.length_cons]
      omega

/-! ### The statements -/

/-- Settles O9: a reset action loads the reset values, and no instruction can clear DIN0 and DIN1 at once. -/
theorem resetClearsEveryRegister : Obligations.ResetClearsEveryRegister := by
  refine ⟨fun s rest hp => ?reset, fun i s t h hdin0 hdin1 hreset => ?transaction⟩
  case reset => exact ⟨_, step_hostReset hp, rfl, reset_ok0, reset_ok1, reset_ill, portRead_reset _⟩
  case transaction =>
    obtain ⟨hregs, -, -⟩ := exec_next h
    have hafter : regsAfter i s.regs = Regs.reset := hregs.symm.trans hreset
    obtain hkept | hkept := regsAfter_din0_or_din1 i s.regs <;> rw [hafter] at hkept
    · exact hdin0 hkept.symm
    · exact hdin1 hkept.symm

/-- Settles O15: the two register files read alike at every address, and neither write touches the host's side. -/
theorem dinWritesCommute : Obligations.DinWritesCommute := by
  intro a b x y s s₁ s₂ t₁ t₂ hab ha hb hs₁ ht₁ hs₂ ht₂
  rw [exec_wr] at hs₁ hs₂
  cases hs₁
  cases hs₂
  rw [exec_wr] at ht₁ ht₂
  cases ht₁
  cases ht₂
  rw [portWrite_din_comm hab ha hb]

/-- Settles O50, by induction on the host's plan: each real action has a next state. -/
theorem everyRunOfTransactionsEnds : Obligations.EveryRunOfTransactionsEnds := fun _ hs => run_of_real hs rfl

/-- Settles O45: the reset values are the zeros of every reserved bit and lie in every range. -/
theorem invariantHoldsAtReset : Obligations.InvariantHoldsAtReset := reset_inv

/-- Settles O48: nothing of group 1 has been written since reset. -/
theorem groupOneCoherenceHoldsAtReset : Obligations.GroupOneCoherenceHoldsAtReset := reset_groupOneCoherent

end Sys2Proof.Machine

end

section
/-! PROOFS. What the model does on the terms that no word decodes to, for the statement about its own choice
(notes/assumptions/8.md; no rule of the spec speaks of them). -/

namespace Sys2Proof.Machine

/-- WR at OP's address and the instruction that its byte names in the opcode map are the same port write
(30_encoding.md R63). -/
theorem exec_wr_opAddress (c : Byte) (s : State) : exec (.wr opAddress c) s = exec (decodeOpcode c) s :=
  (exec_wr opAddress c s).trans (exec_decodeOpcode c s).symm

/-- Settles O52: OP_ILLEGAL raises the condition without looking at its code, WR at OP's address is the OP write of its
byte, and every term completes. -/
theorem illFormedTermsActAsTheModelChose : Obligations.IllFormedTermsActAsTheModelChose := by
  refine ⟨fun c s => ?illegal, exec_wr_opAddress, fun i s => ⟨_, exec_eq i s⟩⟩
  case illegal => rw [exec_opIllegal, raiseIllegal_eq]

end Sys2Proof.Machine

end
